-- ==== Sys2Proof/Word.lean ====
section
/-! DEFINITION. The words of the CV418: bytes on the link, ticks, converter results, positions.
Counts, loads, speeds, spacings and ordinals are whole numbers and stand as `Nat` or `Int`. -/

namespace Sys2Proof

/-- A payload byte (12_frame_formats.md). -/
abbrev Byte := BitVec 8

/-- A value of the free-running tick count, which wraps (R1). -/
abbrev Tick := BitVec 32

/-- A 24-bit signed converter result (R2); its number is `BitVec.toInt`. -/
abbrev Sample := BitVec 24

/-- A position along the zone, 0 to 7 (R167, R175). -/
abbrev Pos := Fin 8

/-- The fourteen partial flags, bit n being flag n (R177, section 3.5). -/
abbrev FlagSet := BitVec 14

end Sys2Proof
end

