-- ==== Sys2Proof/Syntax.lean ====
section
/-! DEFINITION. The commands of the CV418: one constructor of `Instr` per row of spec/opcode_table.json.
The table gives no operand fields; the operands here are what each event brings with it (assumption 1). -/

namespace Sys2Proof

/-- The two wheel detectors of a section (R21). -/
inductive Detector where
  | a
  | b
  deriving DecidableEq, Repr

/-- Direction of travel (R21, R155). -/
inductive Direction where
  | up
  | down
  deriving DecidableEq, Repr

/-- The two wake flags of the Rate Controller (R7). -/
inductive WakeSource where
  | detector
  | link
  deriving DecidableEq, Repr

/-- What breaks a frame in reception (R68). -/
inductive BreakCause where
  /-- The length field gives more than 24 bytes. -/
  | overlongLength
  /-- A ninth consecutive recessive bit. -/
  | ninthRecessive
  /-- A recessive bit where a fill bit is due. -/
  | missingFillBit
  /-- A recessive bit where the end mark is due. -/
  | missingEndMark
  deriving DecidableEq, Repr

/-- The eight frame kinds (R175). -/
inductive Kind where
  | restart
  | calibrate
  | site
  | train
  | axle
  | vehicle
  | dissent
  | presence
  deriving DecidableEq, Repr

/-- A frame as it stands at its end mark (R61, R68): the label's position and sequence fields, the payload and
the received check. The kind is that of the command; the length field is the number of payload bytes.
`rosterLast` says which of the orders of R72 and R83 is taken: false, the Roster takes the frame before the other
blocks; true, after them (assumption 8). -/
structure RxFrame where
  position   : Pos
  sequence   : BitVec 6
  payload    : List Byte
  check      : BitVec 16
  rosterLast : Bool := false
  deriving DecidableEq, Repr

/-- The commands, in the order of spec/opcode_table.json. -/
inductive Instr where
  /-- POWER_ON_RESET (R167): the three strap fields at the pins. -/
  | powerOnReset (pos cnt : BitVec 3) (sec : BitVec 4)
  /-- SAMPLE_PAIR (R2): both converter results at this tick. -/
  | samplePair (left right : Sample)
  /-- ZERO_CAPTURE_COMPLETE (R15): the pair that brings the capture count to 256 (assumption 5). -/
  | zeroCaptureComplete (left right : Sample)
  /-- SETTLING_COMPLETE (R4). -/
  | settlingComplete
  /-- QUIET_TIMER_EXPIRY (R8). -/
  | quietTimerExpiry
  /-- DORMANT_ENTRY_COMPLETE (R9). -/
  | dormantEntryComplete
  /-- REFRESH_TIMER_EXPIRY (R10). -/
  | refreshTimerExpiry
  /-- WAKE_EVENT (R7): the Rate Controller takes this wake flag. -/
  | wakeEvent (source : WakeSource)
  /-- DETECTOR_EVENT (R22): a report of a detector, with the direction it sensed. -/
  | detectorEvent (detector : Detector) (dir : Direction)
  /-- DEBOUNCE_HOLD_END (R22). -/
  | debounceHoldEnd (detector : Detector)
  /-- CLOSE_TIMER_EXPIRY (R161). -/
  | closeTimerExpiry
  /-- DEADLINE_EXPIRY (R98), of the entry in this slot. -/
  | deadlineExpiry (slot : Fin 16)
  /-- ATTEMPT_START (R64), after this many further recessive bit times (assumption 7). -/
  | attemptStart (quiet : Nat)
  /-- ARBITRATION_LOST (R65). -/
  | arbitrationLost
  /-- SENDER_ERROR (R66); `run` recessive bit times since the pair was last dominant end at the error bit
  (assumption 7). -/
  | senderError (run : Nat)
  /-- ATTEMPT_COMPLETE (R69). -/
  | attemptComplete
  /-- FRAME_BROKEN (R68); `run` recessive bit times end at the breaking bit (assumption 7). -/
  | frameBroken (cause : BreakCause) (run : Nat)
  /-- RESTART_FRAME (R174). -/
  | restartFrame (f : RxFrame)
  /-- CALIBRATE_FRAME (R169). -/
  | calibrateFrame (f : RxFrame)
  /-- SITE_FRAME (R171). -/
  | siteFrame (f : RxFrame)
  /-- TRAIN_OPEN_FRAME (R158): a TRAIN frame whose subtype is 1, or none of 1, 2, 3 (R179, assumption 18). -/
  | trainOpenFrame (f : RxFrame)
  /-- TRAIN_REVERSAL_FRAME (R163): a TRAIN frame whose subtype is 2. -/
  | trainReversalFrame (f : RxFrame)
  /-- TRAIN_CLOSE_FRAME (R162): a TRAIN frame whose subtype is 3. -/
  | trainCloseFrame (f : RxFrame)
  /-- AXLE_FRAME (R159). -/
  | axleFrame (f : RxFrame)
  /-- VEHICLE_FRAME (R148). -/
  | vehicleFrame (f : RxFrame)
  /-- DISSENT_FRAME (R79). -/
  | dissentFrame (f : RxFrame)
  /-- PRESENCE_FRAME (R80). -/
  | presenceFrame (f : RxFrame)
  /-- OTHER_PARTY_START_MARK (R64), after this many further recessive bit times (assumption 7). -/
  | otherPartyStartMark (quiet : Nat)
  /-- LABEL_SENT_UNBEATEN (R65). -/
  | labelSentUnbeaten
  deriving DecidableEq, Repr

end Sys2Proof
end

