-- ==== Sys2Proof/Decode.lean ====
section
/-! DEFINITION. The decoder the host asks for. No row of spec/opcode_table.json gives bits (every row's fields are
empty), so no word spells a command (assumption 26). The frames of the track link have an encoding of their own:
Sys2Proof/Machine/Wire.lean and Sys2Proof/Machine/Frames.lean. -/

namespace Sys2Proof

/-- The command a word spells by the table's bits: none, since no row has bits. -/
def decodeTableWord (_nbits _w : Nat) : Option Instr := none

end Sys2Proof
end

