-- ==== Sys2Proof/Config.lean ====
section
/-! DEFINITION. The part's fixed numbers, each with the rule that gives it. The spec leaves no value of an
instruction undefined, so there is no free value here. -/

namespace Sys2Proof.Config

/-- Settling count at power-up (R4). -/
def settleTicks : Nat := 2048

/-- Length of the dormant-entry sequence (R9). -/
def dormantEntryTicks : Nat := 64

/-- Ticks in a second (R1, R8, R10). -/
def ticksPerSecond : Nat := 8192

/-- In QUIET a pair is produced at every tick whose count is a multiple of this (R2). -/
def quietDivider : Nat := 16

/-- Settled pairs a zero capture needs (R15). -/
def capturePairs : Nat := 256

/-- Debounce time while no SITE is held (R22). -/
def defaultDebounce : Nat := 8

/-- Time constant k while no SITE is held (R13). -/
def defaultK : Nat := 8

/-- The longest interval the station measures (R31, R33). -/
def maxInterval : Nat := 2147483647

/-- Greatest value of a wheel load, a speed, a spacing and an axle ordinal (R46, R32, R33, R26). -/
def max16 : Nat := 65535

/-- Pairs the dwell buffer can hold, and the cap of the effective dwell length (R39, R42). -/
def maxBuffer : Nat := 65535

/-- Frames the transmit queue can hold (R73). -/
def queueSize : Nat := 8

/-- Failed attempts that discard a frame (R67). -/
def maxAttempts : Nat := 8

/-- Recessive bit times after which the pair is idle (R64). -/
def idleBits : Nat := 11

/-- Recessive run after which the sender inserts a fill bit (R61). -/
def fillRun : Nat := 8

/-- The longest payload of a valid frame, in bytes (R61, R68). -/
def maxPayload : Nat := 24

/-- Start value of the frame check register (R63). -/
def checkStart : BitVec 16 := 65535#16

/-- The generator below x^16 (R63). -/
def checkPoly : BitVec 16 := 10309#16

/-- Ordinals of the consensus window after next_expected (R89). -/
def windowSpan : Nat := 15

/-- Ticks allowed for a frame to win the link (R96). -/
def deadlineAllowance : Nat := 410

/-- The longest deadline (R96). -/
def deadlineCap : Nat := 245760

/-- Entries of the Publication Table (R141). -/
def publicationSlots : Nat := 16

/-- The vehicle ordinal ceiling (R128). -/
def maxVehicle : Nat := 4095

/-- Greatest mean speed a vehicle record shows as present (R138). -/
def maxMeanSpeed : Nat := 65534

/-- The range of the close timer's length (R160). -/
def closeMin : Nat := 16384

/-- The longest close timer, also its length when no speed is known (R160). -/
def closeMax : Nat := 491520

end Sys2Proof.Config
end

