-- ==== Sys2Proof/Machine/Arith.lean ====
section
/-! DEFINITION. The arithmetic of 00_scope.md, Conventions: comparison of ticks, clamps, the roundings, the lower
median, and the bits and bytes of a frame's fields. -/

namespace Sys2Proof.Machine

/-- `t` ticks after `now` (R1). -/
def tickAfter (now : Tick) (t : Nat) : Tick := now + BitVec.ofNat 32 t

/-- Ticks from `t1` to `t2`, modulo 2^32 (R1). -/
def ticksSince (t2 t1 : Tick) : Nat := (t2 - t1).toNat

/-- `t2` is later than `t1` (R1). -/
def tickLater (t2 t1 : Tick) : Bool :=
  1 ≤ ticksSince t2 t1 && ticksSince t2 t1 ≤ Config.maxInterval

/-- The tick count `now` has reached `t` (R1, R98). -/
def tickReached (now t : Tick) : Bool := ticksSince now t ≤ Config.maxInterval

/-- A clamp (00_scope.md, Arithmetic). -/
def clampNat (lo hi n : Nat) : Nat := max lo (min n hi)

/-- |a - b| on whole numbers. -/
def absDiff (a b : Nat) : Nat := (a - b) + (b - a)

/-- Nearest integer to num / den, an exact half going to the even neighbour; den > 0. -/
def roundHalfEven (num : Int) (den : Nat) : Int :=
  let q := num / (den : Int)
  let r := num % (den : Int)
  if 2 * r < (den : Int) then q
  else if (den : Int) < 2 * r then q + 1
  else if q % 2 = 0 then q else q + 1

/-- num / den with its fraction dropped, toward zero. -/
def truncDiv (num : Int) (den : Nat) : Int := Int.tdiv num (den : Int)

/-- Insertion into an ascending list, before equal keys. -/
def insertBy {α : Type} (key : α → Nat) (x : α) : List α → List α
  | [] => [x]
  | y :: ys => if key x ≤ key y then x :: y :: ys else y :: insertBy key x ys

/-- Ascending order by `key`; members of equal key keep their order. -/
def sortBy {α : Type} (key : α → Nat) : List α → List α
  | [] => []
  | x :: xs => insertBy key x (sortBy key xs)

/-- The lower median: the value at place floor((n + 1) / 2) of the ascending list, counting from 1 (00_scope.md,
Arithmetic; R109). Absent for an empty list. -/
def lowerMedian (l : List Nat) : Option Nat :=
  (sortBy id l)[(l.length + 1) / 2 - 1]?

/-- The floor of the mean; absent for an empty list (R119, R138). -/
def floorMean (l : List Nat) : Option Nat :=
  if l.isEmpty then none else some (l.sum / l.length)

/-- The mean rounded to the nearest integer, ties to even (R116); the list is not empty. -/
def roundMean (l : List Nat) : Nat := (roundHalfEven (l.sum : Int) l.length).toNat

/-- The greatest of a list (0 for none). -/
def maxOf (l : List Nat) : Nat := l.foldl max 0

/-- The least of a list (0 for none). -/
def minOf : List Nat → Nat
  | [] => 0
  | x :: xs => xs.foldl min x

/-- The signed maximum of a list (R43); 0 for none. -/
def maxOfInt : List Int → Int
  | [] => 0
  | x :: xs => xs.foldl max x

/-- One byte of a field. -/
def byte1 (n : Nat) : List Byte := [BitVec.ofNat 8 n]

/-- A two-byte field, most significant byte first (12_frame_formats.md). -/
def byte2 (n : Nat) : List Byte := [BitVec.ofNat 8 (n / 256), BitVec.ofNat 8 n]

/-- A three-byte field, most significant byte first. -/
def byte3 (n : Nat) : List Byte := [BitVec.ofNat 8 (n / 65536), BitVec.ofNat 8 (n / 256), BitVec.ofNat 8 n]

/-- The one-byte field at byte `i` of a payload. -/
def get1 (p : List Byte) (i : Nat) : Nat := (p.getD i 0).toNat

/-- The two-byte field at byte `i`. -/
def get2 (p : List Byte) (i : Nat) : Nat := get1 p i * 256 + get1 p (i + 1)

/-- The three-byte field at byte `i`. -/
def get3 (p : List Byte) (i : Nat) : Nat := get1 p i * 65536 + get1 p (i + 1) * 256 + get1 p (i + 2)

/-- The signed three-byte field at byte `i`, in two's complement (R176). -/
def getSigned3 (p : List Byte) (i : Nat) : Int := (BitVec.ofNat 24 (get3 p i)).toInt

/-- Bit `i` of a number. -/
def bitOf (n i : Nat) : Bool := n / 2 ^ i % 2 == 1

/-- A bit as a number with weight 2^i. -/
def bitAt (b : Bool) (i : Nat) : Nat := if b then 2 ^ i else 0

end Sys2Proof.Machine
end

