-- ==== Sys2Proof/Machine/Records.lean ====
section
/-! DEFINITION. The records the twelve blocks hold and hand to one another, each with the rule that lists its
fields. Plain data. -/

namespace Sys2Proof.Machine

/-- Rate states (R5). -/
inductive Rate where
  | active
  | quiet
  | dormant
  deriving DecidableEq, Repr

/-- Zero states of a channel (R14). -/
inductive ZeroState where
  | ok
  | warn
  | limit
  deriving DecidableEq, Repr

/-- Train states (R155). -/
inductive TrainState where
  | noTrain
  | running
  | abandoned
  deriving DecidableEq, Repr

/-- The own standing (R87). -/
inductive Standing where
  | contributing
  | joined
  | desync
  | notReady
  deriving DecidableEq, Repr

/-- Link states (R64). -/
inductive LinkState where
  | idle
  | contending
  | sending
  | receiving
  deriving DecidableEq, Repr

/-- Rounding modes of a CALIBRATE (R45, R176). -/
inductive Rounding where
  | nearest
  | towardZero
  deriving DecidableEq, Repr

/-- Configuration states outside STRAP_FAULT (R168). -/
inductive ConfigState where
  | blank
  | calHeld
  | listening
  | capturing
  | ready
  deriving DecidableEq, Repr

/-- Last refusal status (R173). -/
inductive LastRefusal where
  | none
  | calRefused
  | siteRefused
  deriving DecidableEq, Repr

/-- States of a roster entry (R78). -/
inductive PeerState where
  | unknown
  | live
  | silent
  | desync
  deriving DecidableEq, Repr

/-- Spacing classes (R125). -/
inductive SpacingClass where
  | bogie
  | coupling
  | body
  | gap
  deriving DecidableEq, Repr

/-- The fourteen partial flags (section 3.5). -/
inductive PartialFlag where
  | noSamples
  | short
  | incomplete
  | overrange
  | negative
  | saturated
  | unsettled
  | zeroWarn
  | zeroLimit
  | impact
  | imbalance
  | overload
  | stationFault
  | brokenDwell
  deriving DecidableEq, Repr

/-- What decides an entry (R98). -/
inductive Trigger where
  | complete
  | deadline
  | forced
  deriving DecidableEq, Repr

/-- The two notices of the Link Controller (R76). -/
inductive Notice where
  | sent
  | dropped
  deriving DecidableEq, Repr

/-- The strap fields as sampled (R167). -/
structure Straps where
  pos : BitVec 3
  cnt : BitVec 3
  sec : BitVec 4
  deriving DecidableEq, Repr

/-- A span: mantissa M and scale exponent E of one channel (R38, R176). -/
structure Span where
  mantissa : Nat
  exponent : Nat
  deriving DecidableEq, Repr

/-- The contents of a CALIBRATE (R169). -/
structure Calibrate where
  spanL    : Span
  spanR    : Span
  rounding : Rounding
  capture  : Bool
  zeroL    : Int
  zeroR    : Int
  warn     : Nat
  limit    : Nat
  band     : Nat
  deriving DecidableEq, Repr

/-- The contents of a SITE: boundaries in centimetres, clamped where R171 clamps when held. -/
structure Site where
  b1        : Nat
  b2        : Nat
  b3        : Nat
  debounce  : Nat
  k         : Nat
  mask      : FlagSet
  quorum    : Nat
  overload  : Nat
  imbalance : Nat
  impact    : Nat
  agree     : Nat
  spread    : Nat
  quiet     : Nat
  refresh   : Nat
  deriving DecidableEq, Repr

/-- A sample pair (R2). The clip marks are functions of the samples (R3). -/
structure Pair where
  stamp   : Tick
  left    : Sample
  right   : Sample
  settled : Bool
  deriving DecidableEq, Repr

/-- The open dwell (R25). `aged`: its age has reached 2,147,483,647 ticks (R31). `prevAged`: the interval from the
previous entry had reached that value at this entry (R33). -/
structure Dwell where
  ordinal  : Nat
  entry    : Tick
  aged     : Bool
  prevAged : Bool
  deriving DecidableEq, Repr

/-- The previous-axle record (R34). `aged`: 2,147,483,647 ticks have passed since its entry (R33). -/
structure PrevAxle where
  entry : Tick
  speed : Option Nat
  aged  : Bool
  deriving DecidableEq, Repr

/-- What a calibrated snapshot adds (R38): both spans and the rounding mode. -/
structure Weighing where
  spanL    : Span
  spanR    : Span
  rounding : Rounding
  deriving DecidableEq, Repr

/-- The entry snapshot (R38). The calibrated mark is set exactly when `weighing` is present. -/
structure Snapshot where
  ordinal    : Nat
  entry      : Tick
  zL         : Int
  zR         : Int
  zstateL    : ZeroState
  zstateR    : ZeroState
  weighing   : Option Weighing
  deriving DecidableEq, Repr

/-- A left and a right load, kg (R54). -/
structure Loads where
  left  : Nat
  right : Nat
  deriving DecidableEq, Repr

/-- The axle load of a pair of wheel loads (R116). -/
def Loads.axle (l : Loads) : Nat := l.left + l.right

/-- The partial (R54). -/
structure Partial where
  ordinal : Nat
  dir     : Direction
  loads   : Option Loads
  speed   : Option Nat
  spacing : Option Nat
  flags   : FlagSet
  deriving DecidableEq, Repr

/-- The pending station-fault set (R17). -/
structure FaultSet where
  zeroLimit     : Bool
  idleOverrange : Bool
  positionClash : Bool
  linkFailure   : Bool
  deriving DecidableEq, Repr

/-- The four station faults (R17). -/
inductive StationFault where
  | zeroLimit
  | idleOverrange
  | positionClash
  | linkFailure
  deriving DecidableEq, Repr

/-- A frame in the transmit queue (R73), with the identity by which its owner names it. -/
structure QFrame where
  id      : Nat
  kind    : Kind
  seq     : BitVec 6
  payload : List Byte
  deriving DecidableEq, Repr

/-- A roster entry (R78). -/
structure RosterEntry where
  state  : PeerState
  ready  : Bool
  misses : Nat
  slips  : Nat
  deriving DecidableEq, Repr

/-- The consensus flags (R123). -/
structure ConsensusFlags where
  missing   : Bool := false
  lowQuorum : Bool := false
  unweighed : Bool := false
  spread    : Bool := false
  hole      : Bool := false
  forced    : Bool := false
  timedOut  : Bool := false
  slipped   : Bool := false
  deriving DecidableEq, Repr

/-- A consensus axle (R100). -/
structure ConsensusAxle where
  ordinal : Nat
  loads   : Option Loads
  speed   : Option Nat
  spacing : Option Nat
  flags   : ConsensusFlags
  noted   : FlagSet
  deriving DecidableEq, Repr

/-- What an entry in OPEN or DECIDED has collected (R88): its ordinal, the eight contribution places and the
expected set. -/
structure Collecting where
  ordinal  : Nat
  contribs : Vector (Option Partial) 8
  expected : Vector Bool 8
  deriving DecidableEq, Repr

/-- A slot of the Consensus Table (R88). -/
inductive Slot where
  | free
  | opened (c : Collecting) (deadline : Tick)
  | decided (c : Collecting) (axle : ConsensusAxle)
  deriving DecidableEq, Repr

/-- The vehicle flags (R137). -/
structure VehicleFlags where
  first      : Bool := false
  last       : Bool := false
  unresolved : Bool := false
  split      : Bool := false
  gap        : Bool := false
  partly     : Bool := false
  reversed   : Bool := false
  doubtful   : Bool := false
  deriving DecidableEq, Repr

/-- An axle of the open vehicle (R124): the consensus axle with its spacing class. -/
structure VehicleAxle where
  axle : ConsensusAxle
  cls  : SpacingClass
  deriving DecidableEq, Repr

/-- The open vehicle (R124). `groups` holds the group sizes in travel order; the groups divide `axles` in order. -/
structure OpenVehicle where
  ordinal   : Nat
  firstAxle : Nat
  groups    : List Nat
  axles     : List VehicleAxle
  flags     : VehicleFlags
  deriving DecidableEq, Repr

/-- A vehicle record (R136). -/
structure VehicleRecord where
  ordinal   : Nat
  trainNo   : BitVec 8
  firstAxle : Nat
  axleCount : Nat
  groups    : List Nat
  left      : Nat
  right     : Nat
  gross     : Nat
  speed     : Option Nat
  flags     : VehicleFlags
  summary   : FlagSet
  deriving DecidableEq, Repr

/-- A peer's vehicle record as rebuilt from its VEHICLE frame (R141, R179), with the sender. The right total is not
sent; it is gross less left total (R177). -/
structure PeerRecord where
  sender    : Pos
  ordinal   : Nat
  trainNo   : BitVec 8
  firstAxle : Nat
  axleCount : Nat
  /-- The group count as received, 0 to 3. -/
  groupCount : Nat
  /-- The three size fields as received, each plus one. -/
  sizes     : List Nat
  gross     : Nat
  left      : Nat
  speed     : Option Nat
  flags     : VehicleFlags
  summary   : FlagSet
  deriving DecidableEq, Repr

/-- The states of a publication entry with what each holds (R141). A frame reference is the identity of the own
frame in the transmit queue. -/
inductive PubState where
  | awaitingOwn (peer : PeerRecord)
  | queued (own : VehicleRecord) (frame : Nat)
  | sent (own : VehicleRecord)
  | suppressed (own : VehicleRecord) (peer : PeerRecord)
  | dissentQueued (own : VehicleRecord) (peer : PeerRecord) (frame : Nat)
  | dissentSent (own : VehicleRecord) (peer : PeerRecord)
  | dropped (own : VehicleRecord) (peer : Option PeerRecord)
  deriving DecidableEq, Repr

/-- An entry of the Publication Table (R141). -/
structure PubEntry where
  ordinal : Nat
  state   : PubState
  deriving DecidableEq, Repr

/-- The own close record (R155, R162). -/
structure CloseRecord where
  handed   : Nat
  vehicles : Nat
  reversed : Bool
  desync   : Bool
  deriving DecidableEq, Repr

/-- The contents of a TRAIN frame (R177), with its sender. -/
structure TrainFrame where
  sender   : Pos
  subtype  : Nat
  dir      : Direction
  trainNo  : BitVec 8
  ordinal  : Nat
  vehicles : Nat
  reversed : Bool
  desync   : Bool
  deriving DecidableEq, Repr

end Sys2Proof.Machine
end

