-- ==== Sys2Proof/Machine/Flags.lean ====
section
/-! DEFINITION. Every flag computation of the spec: the fourteen partial flags and the quality checks that set
them, the station-fault set, the vehicle flags, and their codes in frames. -/

namespace Sys2Proof.Machine

/-- The number of a partial flag (section 3.5). -/
def PartialFlag.bit (f : PartialFlag) : Nat :=
  match f with
  | .noSamples => 0
  | .short => 1
  | .incomplete => 2
  | .overrange => 3
  | .negative => 4
  | .saturated => 5
  | .unsettled => 6
  | .zeroWarn => 7
  | .zeroLimit => 8
  | .impact => 9
  | .imbalance => 10
  | .overload => 11
  | .stationFault => 12
  | .brokenDwell => 13

/-- A flag set carries a flag. -/
def hasFlag (fs : FlagSet) (f : PartialFlag) : Bool := fs.getLsbD f.bit

/-- The set that holds flag `f` alone when `b`, and no flag otherwise. -/
def flagWhen (b : Bool) (f : PartialFlag) : FlagSet := if b then BitVec.twoPow 14 f.bit else 0

/-- Two flag sets share a flag (R113). -/
def sharesFlag (a b : FlagSet) : Bool := a &&& b != 0

/-- A sample at either end value is clipped (R3). -/
def clippedSample (s : Sample) : Bool := s.toInt == -8388608 || s.toInt == 8388607

/-- A pair with either channel clipped is a clipped pair (R3). -/
def Pair.clipped (p : Pair) : Bool := clippedSample p.left || clippedSample p.right

/-- IMBALANCE (R48), on the clamped loads. -/
def imbalanceCheck (limit : Nat) (l : Loads) : Bool :=
  0 < l.axle && limit * l.axle < absDiff l.left l.right * 100

/-- IMPACT on one channel (R49): peak departure against mean departure, both times n_p x 256. -/
def impactCheck (limit : Nat) (np : Nat) (sum peak z256 : Int) : Bool :=
  let departure := 256 * sum - (np : Int) * z256
  0 < departure && (limit : Int) * departure < (256 * peak - z256) * 100 * (np : Int)

/-- OVERLOAD (R50). -/
def overloadCheck (limit : Nat) (l : Loads) : Bool := 100 * limit < l.axle

/-- The zero flags of a partial, from the two zero states of the snapshot (R51). -/
def zeroFlags (l r : ZeroState) : FlagSet :=
  flagWhen (l == .warn || r == .warn) .zeroWarn ||| flagWhen (l == .limit || r == .limit) .zeroLimit

/-- The zero state that Δ = |z256 - zcal256| gives (R14). -/
def judgeZero (warn limit : Nat) (z zcal : Int) : ZeroState :=
  let d := (z - zcal).natAbs
  if 256 * limit < d then .limit else if 256 * warn < d then .warn else .ok

/-- The empty station-fault set (R17). -/
def noFaults : FaultSet := ⟨false, false, false, false⟩

/-- Setting a fault; one already present leaves the set as it stands (R17). -/
def FaultSet.insert (fs : FaultSet) (f : StationFault) : FaultSet :=
  match f with
  | .zeroLimit => { fs with zeroLimit := true }
  | .idleOverrange => { fs with idleOverrange := true }
  | .positionClash => { fs with positionClash := true }
  | .linkFailure => { fs with linkFailure := true }

/-- The set is empty (R17). -/
def FaultSet.isEmpty (fs : FaultSet) : Bool := fs == noFaults

/-- The fault byte of a PRESENCE (R177). -/
def FaultSet.code (fs : FaultSet) : Nat :=
  bitAt fs.zeroLimit 0 + bitAt fs.idleOverrange 1 + bitAt fs.positionClash 2 + bitAt fs.linkFailure 3

/-- The code of a zero state in a PRESENCE (R177). -/
def ZeroState.code (z : ZeroState) : Nat :=
  match z with
  | .ok => 0
  | .warn => 1
  | .limit => 2

/-- The code of a configuration state in a PRESENCE (R177). -/
def ConfigState.code (c : ConfigState) : Nat :=
  match c with
  | .blank => 0
  | .calHeld => 1
  | .listening => 2
  | .capturing => 3
  | .ready => 4

/-- The code of the last refusal status in a PRESENCE (R177). -/
def LastRefusal.code (r : LastRefusal) : Nat :=
  match r with
  | .none => 0
  | .calRefused => 1
  | .siteRefused => 2

/-- The direction bit of TRAIN and AXLE frames (R177). -/
def dirCode (d : Direction) : Nat :=
  match d with
  | .up => 0
  | .down => 1

/-- The direction a bit names (R177). -/
def dirOf (b : Bool) : Direction := if b then .down else .up

/-- The vehicle flag byte (R177). -/
def VehicleFlags.code (f : VehicleFlags) : Nat :=
  bitAt f.first 0 + bitAt f.last 1 + bitAt f.unresolved 2 + bitAt f.split 3 + bitAt f.gap 4 +
    bitAt f.partly 5 + bitAt f.reversed 6 + bitAt f.doubtful 7

/-- The vehicle flags a byte names (R177). -/
def vehicleFlagsOf (n : Nat) : VehicleFlags :=
  { first := bitOf n 0, last := bitOf n 1, unresolved := bitOf n 2, split := bitOf n 3, gap := bitOf n 4,
    partly := bitOf n 5, reversed := bitOf n 6, doubtful := bitOf n 7 }

/-- Both flag sets together. -/
def VehicleFlags.join (a b : VehicleFlags) : VehicleFlags :=
  { first := a.first || b.first, last := a.last || b.last, unresolved := a.unresolved || b.unresolved,
    split := a.split || b.split, gap := a.gap || b.gap, partly := a.partly || b.partly,
    reversed := a.reversed || b.reversed, doubtful := a.doubtful || b.doubtful }

/-- An axle with these consensus flags makes its vehicle DOUBTFUL: any flag but SLIPPED alone (R137, R123). -/
def ConsensusFlags.doubtful (f : ConsensusFlags) : Bool :=
  f.missing || f.lowQuorum || f.unweighed || f.spread || f.hole || f.forced || f.timedOut

/-- The flag of the trigger (R98). -/
def ConsensusFlags.withTrigger (f : ConsensusFlags) (t : Trigger) : ConsensusFlags :=
  match t with
  | .complete => f
  | .deadline => { f with timedOut := true }
  | .forced => { f with forced := true }

end Sys2Proof.Machine
end

