-- ==== Sys2Proof/Machine/Frames.lean ====
section
/-! DEFINITION. The frames a station sends: payload layouts (R177, R178), label sequences (R62), payload lengths
(R63). -/

namespace Sys2Proof.Machine

/-- The kind value, which orders the transmit queue and the arbitration (R62, R175). -/
def kindValue (k : Kind) : Nat :=
  match k with
  | .restart => 0
  | .calibrate => 1
  | .site => 2
  | .train => 3
  | .axle => 4
  | .vehicle => 5
  | .dissent => 6
  | .presence => 7

/-- The kinds a station sends, 3 to 7 (R62). -/
def stationKind (k : Kind) : Bool := 3 ≤ kindValue k

/-- The payload length of a kind, in bytes (R63). -/
def payloadLength (k : Kind) : Nat :=
  match k with
  | .restart => 2
  | .calibrate => 20
  | .site => 20
  | .train => 8
  | .axle => 12
  | .vehicle => 17
  | .dissent => 18
  | .presence => 8

/-- The sequence formed from a train number or an ordinal: modulo 64 (R62). -/
def seqOf (n : Nat) : BitVec 6 := BitVec.ofNat 6 n

/-- The TRAIN subtypes (R177). -/
def trainOpenSubtype : Nat := 1

/-- TRAIN-REVERSAL (R177). -/
def trainReversalSubtype : Nat := 2

/-- TRAIN-CLOSE (R177). -/
def trainCloseSubtype : Nat := 3

/-- The payload of a TRAIN frame (R177). -/
def trainPayload (subtype : Nat) (d : Direction) (trainNo : BitVec 8) (ordinal vehicles : Nat)
    (reversed desync : Bool) : List Byte :=
  byte1 subtype ++ byte1 (dirCode d) ++ [trainNo] ++ byte2 ordinal ++ byte2 vehicles ++
    byte1 (bitAt reversed 0 + bitAt desync 1)

/-- The flags word of an AXLE frame: direction, spacing-present, the fourteen flags (R177). -/
def axleFlagsWord (p : Partial) : Nat :=
  dirCode p.dir * 32768 + bitAt p.spacing.isSome 14 + p.flags.toNat

/-- The payload of an AXLE frame: an absent load, speed or spacing is sent as 0 (R177, R178). -/
def axlePayload (p : Partial) : List Byte :=
  byte2 p.ordinal ++ byte2 ((p.loads.map Loads.left).getD 0) ++ byte2 ((p.loads.map Loads.right).getD 0) ++
    byte2 (p.speed.getD 0) ++ byte2 (p.spacing.getD 0) ++ byte2 (axleFlagsWord p)

/-- The group byte: the count, then each size less one, 0 beyond the count (R177). -/
def groupByte (groups : List Nat) : Nat :=
  groups.length * 64 + (groups.getD 0 1 - 1) * 16 + (groups.getD 1 1 - 1) * 4 + (groups.getD 2 1 - 1)

/-- The payload of a VEHICLE frame (R177); an absent mean speed is sent as 65,535 (R178). -/
def vehiclePayload (r : VehicleRecord) : List Byte :=
  byte2 (r.ordinal * 16 + r.axleCount) ++ [r.trainNo] ++ byte2 r.firstAxle ++ byte1 (groupByte r.groups) ++
    byte3 r.gross ++ byte3 r.left ++ byte2 (r.speed.getD 65535) ++ byte1 r.flags.code ++ byte2 r.summary.toNat

/-- The payload of a DISSENT frame: the VEHICLE bytes, then the position it dissents from (R178). -/
def dissentPayload (r : VehicleRecord) (peer : Pos) : List Byte := vehiclePayload r ++ byte1 peer.val

/-- The payload of a PRESENCE frame (R177, R173). -/
def presencePayload (c : ConfigState) (refusal : LastRefusal) (zL zR : ZeroState) (faults : FaultSet)
    (n section_ : Nat) (trainNo : BitVec 8) : List Byte :=
  byte1 c.code ++ byte1 refusal.code ++ byte1 zL.code ++ byte1 zR.code ++ byte1 faults.code ++ byte1 n ++
    byte1 section_ ++ [trainNo]

end Sys2Proof.Machine
end

