-- ==== Sys2Proof/Machine/Operands.lean ====
section
/-! DEFINITION. What a received payload says: the layouts of R176 and R177 read back, absences included (R179), and
the acceptance checks of the settings frames (R169, R171). -/

namespace Sys2Proof.Machine

/-- RESTART: the all-stations field (R176). -/
def restartAll (p : List Byte) : Bool := get1 p 0 != 0

/-- RESTART: the keep-configuration field (R176). -/
def restartKeeps (p : List Byte) : Bool := get1 p 1 != 0

/-- The rounding mode a code names; none for a code that names neither (R169, R176). -/
def roundingOf (n : Nat) : Option Rounding :=
  match n with
  | 0 => some .nearest
  | 1 => some .towardZero
  | _ => none

/-- An offered CALIBRATE (R176) after the checks of R169; none when any check refuses it. -/
def readCalibrate (p : List Byte) : Option Calibrate :=
  match roundingOf (get1 p 6) with
  | none => none
  | some r =>
    let c : Calibrate :=
      { spanL := ⟨get2 p 0, get1 p 2⟩, spanR := ⟨get2 p 3, get1 p 5⟩, rounding := r, capture := get1 p 7 != 0,
        zeroL := getSigned3 p 8, zeroR := getSigned3 p 11, warn := get2 p 14, limit := get2 p 16, band := get2 p 18 }
    if c.spanL.mantissa == 0 || c.spanR.mantissa == 0 || 31 < c.spanL.exponent || 31 < c.spanR.exponent ||
        c.limit < c.warn then none
    else some c

/-- The fields of a SITE as received, boundaries in centimetres (R176, R179). -/
def rawSite (p : List Byte) : Site :=
  { overload := get2 p 0, agree := get2 p 2, spread := get2 p 4, quiet := get2 p 6, refresh := get2 p 8,
    impact := get2 p 10, b1 := get1 p 12 * 10, b2 := get1 p 13 * 10, b3 := get1 p 14 * 10, imbalance := get1 p 15,
    k := get1 p 16 / 16, quorum := get1 p 16 % 16, debounce := get3 p 17 / 16384,
    mask := BitVec.ofNat 14 (get3 p 17) }

/-- The clamps of an accepted SITE (R171). -/
def clampSite (n : Nat) (s : Site) : Site :=
  { s with debounce := clampNat 8 1023 s.debounce, k := clampNat 4 12 s.k, quorum := clampNat 1 n s.quorum,
           imbalance := min s.imbalance 100, impact := max s.impact 100 }

/-- An offered SITE after the checks and clamps of R171; none when refused. `len` is L in millimetres. -/
def readSite (n len : Nat) (p : List Byte) : Option Site :=
  let s := rawSite p
  if s.b1 < s.b2 && s.b2 < s.b3 && len < s.b1 * 10 then some (clampSite n s) else none

/-- A received TRAIN frame (R177). -/
def readTrain (sender : Pos) (p : List Byte) : TrainFrame :=
  { sender := sender, subtype := get1 p 0, dir := dirOf (bitOf (get1 p 1) 0), trainNo := p.getD 2 0,
    ordinal := get2 p 3, vehicles := get2 p 5, reversed := bitOf (get1 p 7) 0, desync := bitOf (get1 p 7) 1 }

/-- The partial rebuilt from an AXLE frame: loads present exactly when NO_SAMPLES is clear, speed exactly when
BROKEN_DWELL is clear, spacing exactly when its bit is set (R179). -/
def readAxle (p : List Byte) : Partial :=
  let w := get2 p 10
  let flags : FlagSet := BitVec.ofNat 14 w
  { ordinal := get2 p 0, dir := dirOf (bitOf w 15),
    loads := if hasFlag flags .noSamples then none else some ⟨get2 p 2, get2 p 4⟩,
    speed := if hasFlag flags .brokenDwell then none else some (get2 p 6),
    spacing := if bitOf w 14 then some (get2 p 8) else none, flags := flags }

/-- The peer record rebuilt from a VEHICLE frame, stored as received (R179). -/
def readVehicle (sender : Pos) (p : List Byte) : PeerRecord :=
  let g := get1 p 5
  { sender := sender, ordinal := get2 p 0 / 16, axleCount := get2 p 0 % 16, trainNo := p.getD 2 0,
    firstAxle := get2 p 3, groupCount := g / 64, sizes := [g / 16 % 4 + 1, g / 4 % 4 + 1, g % 4 + 1],
    gross := get3 p 6, left := get3 p 9, speed := if get2 p 12 == 65535 then none else some (get2 p 12),
    flags := vehicleFlagsOf (get1 p 14), summary := BitVec.ofNat 14 (get2 p 15) }

/-- The configuration state of a PRESENCE is READY (R80, R179). -/
def presenceReady (p : List Byte) : Bool := get1 p 0 == ConfigState.ready.code

end Sys2Proof.Machine
end

