-- ==== Sys2Proof/Machine/State.lean ====
section
/-! DEFINITION. The state of the CV418, one record per block of 00_scope.md's Block Overview, the station's own
tick count and the queue of commands that wait; the reasons a step can stop; the state after power-on reset. -/

namespace Sys2Proof.Machine

/-- Front End (R2, R4). `settledMark` and `pairRate` are the settled mark and the rate of a pair produced at this
tick; `pairDone` says that the pair of this tick has been produced (assumption 14). -/
structure FrontEnd where
  powered     : Bool
  settling    : Bool
  settleCount : Nat
  settledMark : Bool
  pairRate    : Rate
  pairDone    : Bool
  deriving DecidableEq, Repr

/-- Rate Controller (R5 to R10). A running timer is its expiry tick, the dormant entry the tick of its completion. -/
structure RateControl where
  rate         : Rate
  quietTimer   : Option Tick
  refreshTimer : Option Tick
  dormantEntry : Option Tick
  detectorWake : Bool
  linkWake     : Bool
  deriving DecidableEq, Repr

/-- One channel of the Zero Tracker (R12, R14). -/
structure ZeroChannel where
  z256    : Int
  zcal256 : Int
  zstate  : ZeroState
  deriving DecidableEq, Repr

/-- Zero Tracker (R12, R15). -/
structure ZeroTracker where
  left           : ZeroChannel
  right          : ZeroChannel
  capturePending : Bool
  count          : Nat
  sumL           : Int
  sumR           : Int
  deriving DecidableEq, Repr

/-- Wheel Timer (chapter 2). A hold is its last tick (R22). -/
structure WheelTimer where
  holdA   : Option Tick
  holdB   : Option Tick
  dwell   : Option Dwell
  counter : Nat
  prev    : Option PrevAxle
  deriving DecidableEq, Repr

/-- Passage Integrator (chapter 3), with the pending station-fault set (R17). -/
structure PassageIntegrator where
  buffer      : List Pair
  snapshot    : Option Snapshot
  latestPair  : Option Pair
  latestSpeed : Option Nat
  faults      : FaultSet
  deriving DecidableEq, Repr

/-- Link Controller (chapter 4). `recessive` counts up to 11 (assumption 7); `nextId` is the identity the next
queued frame takes (assumption 19). -/
structure LinkControl where
  state     : LinkState
  recessive : Nat
  queue     : List QFrame
  attempt   : Option Nat
  cancelled : Bool
  counted   : Option Nat
  attempts  : Nat
  nextId    : Nat
  deriving DecidableEq, Repr

/-- Consensus Table (R88). `latestSpeed`: none, or the speed of the entry most recently decided, itself present or
absent. -/
structure ConsensusTable where
  nextExpected  : Nat
  slots         : Vector Slot 16
  highestOpened : Nat
  handedCount   : Nat
  latestSpeed   : Option (Option Nat)
  deriving DecidableEq, Repr

/-- Vehicle Assembler (R124). -/
structure Assembler where
  vehicle   : Option OpenVehicle
  counter   : Nat
  fullClose : Bool
  deriving DecidableEq, Repr

/-- Train Sequencer (R155). `openFrame` and `closeFrame` are the identities of the own TRAIN-OPEN and TRAIN-CLOSE. -/
structure TrainSequencer where
  state      : TrainState
  dir        : Direction
  standing   : Standing
  slips      : Nat
  closeTimer : Option Tick
  ownClose   : Option CloseRecord
  peerClose  : Option TrainFrame
  openFrame  : Option Nat
  closeFrame : Option Nat
  number     : BitVec 8
  deriving DecidableEq, Repr

/-- Configuration (chapter 11): straps, held settings, last refusal status. The configuration state is a function
of these and the capture-pending mark (R168). -/
structure Configuration where
  straps      : Straps
  cal         : Option Calibrate
  site        : Option Site
  lastRefusal : LastRefusal
  deriving DecidableEq, Repr

/-- The whole station and its queue of commands (first in, first out). `pub` holds the entries of the Publication
Table, at most 16, in the order they were created (assumption 27). -/
structure State where
  pending : List Instr
  tick    : Tick
  fe      : FrontEnd
  rc      : RateControl
  zero    : ZeroTracker
  wheel   : WheelTimer
  pass    : PassageIntegrator
  link    : LinkControl
  roster  : Vector RosterEntry 8
  table   : ConsensusTable
  asm     : Assembler
  pub     : List PubEntry
  train   : TrainSequencer
  conf    : Configuration
  deriving DecidableEq, Repr

/-- Why the part stops: never. No rule of the spec makes the station stop, so there is no constructor; safe, since
every command runs on (assumption 28). -/
inductive Fault where
  deriving DecidableEq, Repr

/-- Why a command has no meaning. -/
inductive Refusal where
  /-- Raised by `exec` alone, for a row that has no meaning yet; no arm raises it. Safe: the run stops. -/
  | notModelled (mnemonic : String)
  deriving DecidableEq, Repr

/-- A roster entry after power-on reset and RESTART (R78, R86). -/
def emptyRosterEntry : RosterEntry := ⟨.unknown, false, 0, 0⟩

/-- A zero channel at power-on reset (R12). -/
def resetZeroChannel : ZeroChannel := ⟨0, 0, .ok⟩

/-- The straps of `State.reset`. The spec gives the pins no value: DESIGN CHOICE, position 0 of a zone of one
station with section code 0 (assumption 4). -/
def resetStraps : Straps := ⟨0, 0, 0⟩

/-- The machine right after power-on reset (R167) with the straps of `resetStraps`: every block as its own chapter
says, the transmit queue holding the power-on PRESENCE (R77, R173), no command waiting. -/
def State.reset : State :=
  { pending := []
    tick := 0
    fe := { powered := true, settling := true, settleCount := Config.settleTicks, settledMark := false,
            pairRate := .quiet, pairDone := false }
    rc := { rate := .quiet, quietTimer := none, refreshTimer := none, dormantEntry := none, detectorWake := false,
            linkWake := false }
    zero := { left := resetZeroChannel, right := resetZeroChannel, capturePending := false, count := 0, sumL := 0,
              sumR := 0 }
    wheel := { holdA := none, holdB := none, dwell := none, counter := 0, prev := none }
    pass := { buffer := [], snapshot := none, latestPair := none, latestSpeed := none, faults := noFaults }
    link := { state := .idle, recessive := 0,
              queue := [{ id := 0, kind := .presence, seq := 0,
                          payload := presencePayload .blank .none .ok .ok noFaults 1 0 0 }],
              attempt := none, cancelled := false, counted := none, attempts := 0, nextId := 1 }
    roster := Vector.replicate 8 emptyRosterEntry
    table := { nextExpected := 1, slots := Vector.replicate 16 .free, highestOpened := 0, handedCount := 0,
               latestSpeed := none }
    asm := { vehicle := none, counter := 0, fullClose := false }
    pub := []
    train := { state := .noTrain, dir := .up, standing := .notReady, slips := 0, closeTimer := none,
               ownClose := none, peerClose := none, openFrame := none, closeFrame := none, number := 0 }
    conf := { straps := resetStraps, cal := none, site := none, lastRefusal := .none } }

end Sys2Proof.Machine
end

