-- ==== Sys2Proof/Machine/Ops.lean ====
section
/-! DEFINITION. The operations that several blocks share: reading the configuration, the timers and the power of the
Front End, the transmit queue with its notices, the station-fault set and the PRESENCE frame. Each says once what it
does to the state; its lemma stands in Sys2Proof/Laws/. -/

namespace Sys2Proof.Machine

/-! ### Configuration values -/

/-- The own position (R167). -/
def Straps.position (st : Straps) : Pos := st.pos.toFin

/-- The station count N = CNT + 1 (R167). -/
def Straps.count (st : Straps) : Nat := st.cnt.toNat + 1

/-- The section length L in millimetres (R167). -/
def Straps.length (st : Straps) : Nat := 600 + 100 * st.sec.toNat

/-- The own position. -/
def State.own (s : State) : Pos := s.conf.straps.position

/-- STRAP_FAULT: a strapped position of N or more (R167). -/
def State.strapFault (s : State) : Bool := s.conf.straps.count ≤ s.conf.straps.position.val

/-- A command of a station in service: in STRAP_FAULT the station takes no event, receives nothing and produces
nothing until the next power-on reset (R5, R21, R60, R167). Every command goes on to a next state (assumption 28). -/
def inService (f : State → State) (s : State) : Host.Outcome State Fault Refusal :=
  .next (if s.strapFault then s else f s)

/-- The configuration state (R168). Without a CALIBRATE the capture-pending mark is clear, and the mark is not
read. -/
def configStateOf (cal site pending : Bool) : ConfigState :=
  match cal, site with
  | false, false => .blank
  | true, false => .calHeld
  | false, true => .listening
  | true, true => if pending then .capturing else .ready

/-- The configuration state of the station (R168). -/
def State.configState (s : State) : ConfigState :=
  configStateOf s.conf.cal.isSome s.conf.site.isSome s.zero.capturePending

/-- The states that hold trains, assemble and publish: LISTENING, CAPTURING, READY (R168). -/
def State.holdsTrains (s : State) : Bool :=
  match s.configState with
  | .blank => false
  | .calHeld => false
  | .listening => true
  | .capturing => true
  | .ready => true

/-- A value of the held SITE, and `d` while none is held. -/
def State.siteValue {α : Type} (s : State) (d : α) (f : Site → α) : α :=
  match s.conf.site with
  | none => d
  | some st => f st

/-- A train is held: RUNNING or ABANDONED (R155). -/
def State.trainHeld (s : State) : Bool := s.train.state != .noTrain

/-! ### Timers and power -/

/-- A timer of `len` ticks started now; a length of 0 means it is not run (R8, R10). -/
def timerFor (now : Tick) (len : Nat) : Option Tick := if len = 0 then none else some (tickAfter now len)

/-- A running timer whose expiry tick the tick count has reached. -/
def timerDue (now : Tick) (t : Option Tick) : Bool :=
  match t with
  | none => false
  | some e => tickReached now e

/-- The quiet timer's length, 0 while no SITE is held (R8). -/
def State.quietTicks (s : State) : Nat := s.siteValue 0 (fun st => st.quiet * Config.ticksPerSecond)

/-- The refresh timer's length, 0 while no SITE is held (R10). -/
def State.refreshTicks (s : State) : Nat := s.siteValue 0 (fun st => st.refresh * Config.ticksPerSecond)

/-- The quiet timer started or restarted with its full length (R8). -/
def startQuietTimer (s : State) : State :=
  { s with rc := { s.rc with quietTimer := timerFor s.tick s.quietTicks } }

/-- The Front End powered up: settling starts with 2,048 (R4). -/
def powerUp (s : State) : State :=
  { s with fe := { s.fe with powered := true, settling := true, settleCount := Config.settleTicks,
                             settledMark := false } }

/-- The Front End powered down: no settling runs and no pair is produced (R4, R9). -/
def powerDown (s : State) : State :=
  { s with fe := { s.fe with powered := false, settling := false, settleCount := 0, settledMark := false,
                             pairRate := .dormant } }

/-- Powered up when the station leaves DORMANT, unchanged otherwise (R4). -/
def wakeFrontEnd (s : State) : State :=
  match s.rc.rate with
  | .dormant => powerUp s
  | .quiet => s
  | .active => s

/-- The request for ACTIVE (R6): leaves DORMANT with settling, aborts a dormant entry, stops both timers. In ACTIVE
no change. -/
def requestActive (s : State) : State :=
  match s.rc.rate with
  | .active => s
  | .quiet => { s with rc := { s.rc with rate := .active, quietTimer := none, dormantEntry := none } }
  | .dormant =>
    let s := powerUp s
    { s with rc := { s.rc with rate := .active, quietTimer := none, refreshTimer := none, dormantEntry := none } }

/-- The request for QUIET (R6): taken in ACTIVE only. -/
def requestQuiet (s : State) : State :=
  match s.rc.rate with
  | .active => startQuietTimer { s with rc := { s.rc with rate := .quiet } }
  | .quiet => s
  | .dormant => s

/-! ### Notices of the Link Controller -/

/-- An entry of the Publication Table after the notice for frame `id` (R150, R151). -/
def noticeEntry (id : Nat) (n : Notice) (e : PubEntry) : PubEntry :=
  match e.state with
  | .queued own ref =>
    if ref = id then
      match n with
      | .sent => { e with state := .sent own }
      | .dropped => { e with state := .dropped own none }
    else e
  | .dissentQueued own peer ref =>
    if ref = id then
      match n with
      | .sent => { e with state := .dissentSent own peer }
      | .dropped => { e with state := .dropped own (some peer) }
    else e
  | .awaitingOwn _ => e
  | .sent _ => e
  | .suppressed _ _ => e
  | .dissentSent _ _ => e
  | .dropped _ _ => e

/-- The owner of a frame takes its notice (R76): AXLE R58, TRAIN R166, VEHICLE and DISSENT R150 and R151, PRESENCE
R173. -/
def notify (f : QFrame) (n : Notice) (s : State) : State :=
  match f.kind with
  | .train =>
    { s with train := { s.train with
        openFrame := if s.train.openFrame = some f.id then none else s.train.openFrame,
        closeFrame := if s.train.closeFrame = some f.id then none else s.train.closeFrame } }
  | .vehicle => { s with pub := s.pub.map (noticeEntry f.id n) }
  | .dissent => { s with pub := s.pub.map (noticeEntry f.id n) }
  | .axle => s
  | .presence => s
  | .restart => s
  | .calibrate => s
  | .site => s

/-! ### The transmit queue -/

/-- The frame of identity `id` leaves the queue; if it was the counted frame the count goes with it (R74, R75). -/
def removeFrame (id : Nat) (l : LinkControl) : LinkControl :=
  { l with queue := l.queue.filter (fun f => f.id != id),
           counted := if l.counted = some id then none else l.counted,
           attempts := if l.counted = some id then 0 else l.attempts }

/-- The better head: lowest kind value, the earlier of equals (R73). -/
def lowerKind (f g : QFrame) : QFrame := if kindValue g.kind < kindValue f.kind then g else f

/-- The head of the queue (R73). -/
def headFrame : List QFrame → Option QFrame
  | [] => none
  | f :: fs => some (fs.foldl lowerKind f)

/-- The youngest frame of the highest kind (R74): later frames of equal kind win. -/
def higherKind (f g : QFrame) : QFrame := if kindValue f.kind ≤ kindValue g.kind then g else f

/-- The frame a full queue displaces for one of kind `k`: the youngest of the highest kind among the frames other
than the frame in attempt, if that kind is above `k` (R74). -/
def victimFor (k : Kind) (l : LinkControl) : Option QFrame :=
  match l.queue.filter (fun f => l.attempt != some f.id) with
  | [] => none
  | f :: fs =>
    let v := fs.foldl higherKind f
    if kindValue k < kindValue v.kind then some v else none

/-- The frame enters the queue at its young end and takes the next identity (R73). -/
def enqueue (k : Kind) (seq : BitVec 6) (payload : List Byte) (l : LinkControl) : LinkControl :=
  { l with queue := l.queue ++ [{ id := l.nextId, kind := k, seq := seq, payload := payload }],
           nextId := l.nextId + 1 }

/-- A frame is offered to the transmit queue (R73, R74): it enters, or displaces a frame whose owner is told DROPPED,
or is refused. The result names the frame that entered; none is the DROPPED notice of the offer itself. -/
def offer (k : Kind) (seq : BitVec 6) (payload : List Byte) (s : State) : State × Option Nat :=
  if s.link.queue.length < Config.queueSize then
    ({ s with link := enqueue k seq payload s.link }, some s.link.nextId)
  else
    match victimFor k s.link with
    | none => (s, none)
    | some v =>
      let s := notify v .dropped { s with link := removeFrame v.id s.link }
      ({ s with link := enqueue k seq payload s.link }, some s.link.nextId)

/-- The owner asks to cancel a frame (R75): one in attempt has its cancellation carried, one waiting is removed
without notice, one no longer queued changes nothing. -/
def cancelFrame (id : Nat) (s : State) : State :=
  if s.link.queue.any (fun f => f.id == id) then
    if s.link.attempt = some id then { s with link := { s.link with cancelled := true } }
    else { s with link := removeFrame id s.link }
  else s

/-- Every queued AXLE frame of the station is cancelled (R59). -/
def cancelAxles (s : State) : State :=
  ((s.link.queue.filter (fun f => f.kind == .axle)).map QFrame.id).foldl (fun s id => cancelFrame id s) s

/-! ### PRESENCE and the station-fault set -/

/-- Configuration offers a PRESENCE with its contents as they stand (R173); its notice has no effect. -/
def offerPresence (s : State) : State :=
  (offer .presence 0
    (presencePayload s.configState s.conf.lastRefusal s.zero.left.zstate s.zero.right.zstate s.pass.faults
      s.conf.straps.count s.conf.straps.sec.toNat s.train.number) s).1

/-- A source sets a station fault (R17); when the set goes from empty to non-empty a PRESENCE is offered (R18). -/
def setFault (f : StationFault) (s : State) : State :=
  let t := { s with pass := { s.pass with faults := s.pass.faults.insert f } }
  if s.pass.faults.isEmpty then offerPresence t else t

/-! ### The dwell -/

/-- The open dwell is discarded without a partial, its buffer emptied and its snapshot dropped (R36, R41). -/
def discardDwell (s : State) : State :=
  { s with wheel := { s.wheel with dwell := none },
           pass := { s.pass with buffer := [], snapshot := none } }

/-- The own axle counter is cleared, and the previous-axle record with it (R34, R36). -/
def clearCounter (s : State) : State :=
  { s with wheel := { s.wheel with counter := 0, prev := none } }

end Sys2Proof.Machine
end

