-- ==== Sys2Proof/Machine/Rates.lean ====
section
/-! DEFINITION. The Rate Controller's events (section 1.2) and the end of settling (R4). A timed event that is not
due has no effect (assumption 3). -/

namespace Sys2Proof.Machine

/-- The wake flag of a source (R7). -/
def RateControl.flag (rc : RateControl) (w : WakeSource) : Bool :=
  match w with
  | .detector => rc.detectorWake
  | .link => rc.linkWake

/-- The wake flag of a source cleared (R7). -/
def RateControl.clearFlag (rc : RateControl) (w : WakeSource) : RateControl :=
  match w with
  | .detector => { rc with detectorWake := false }
  | .link => { rc with linkWake := false }

/-- What a wake event does to the rate, flags apart (R7): nothing in ACTIVE; in QUIET the quiet timer restarts and a
dormant entry is aborted; DORMANT is left for QUIET with settling. -/
def wakeRate (s : State) : State :=
  match s.rc.rate with
  | .active => s
  | .quiet => startQuietTimer { s with rc := { s.rc with dormantEntry := none } }
  | .dormant =>
    let s := powerUp s
    startQuietTimer { s with rc := { s.rc with rate := .quiet, refreshTimer := none, dormantEntry := none } }

/-- The wake event of one set flag (R7). -/
def takeWake (w : WakeSource) (s : State) : State :=
  if s.rc.flag w then wakeRate { s with rc := s.rc.clearFlag w } else s

/-- A zero capture is in flight: the capture-pending mark is set and a CALIBRATE is held (R15). -/
def State.captureInFlight (s : State) : Bool := s.zero.capturePending && s.conf.cal.isSome

/-- The expiry of the quiet timer in QUIET (R8): a pending wake is taken, a capture restarts the timer, otherwise the
dormant-entry sequence starts (R9). -/
def quietExpired (s : State) : State :=
  if s.rc.detectorWake || s.rc.linkWake then takeWake .link (takeWake .detector s)
  else if s.captureInFlight then startQuietTimer s
  else { s with rc := { s.rc with quietTimer := none,
                                  dormantEntry := some (tickAfter s.tick Config.dormantEntryTicks) } }

/-- The quiet timer's expiry, when it is due in QUIET (R8). -/
def quietTimerExpiry (s : State) : State :=
  if s.rc.rate == .quiet && timerDue s.tick s.rc.quietTimer then quietExpired s else s

/-- QUIET_TIMER_EXPIRY (R8). -/
def execQuietTimerExpiry (s : State) : Host.Outcome State Fault Refusal := inService quietTimerExpiry s

/-- The dormant entry completes (R9): powered down, DORMANT, refresh timer started. -/
def dormantEntered (s : State) : State :=
  let s := powerDown s
  { s with rc := { s.rc with rate := .dormant, quietTimer := none, dormantEntry := none,
                             refreshTimer := timerFor s.tick s.refreshTicks } }

/-- The completion of the dormant entry, when it is due (R9). -/
def dormantEntryComplete (s : State) : State :=
  if s.rc.rate == .quiet && timerDue s.tick s.rc.dormantEntry then dormantEntered s else s

/-- DORMANT_ENTRY_COMPLETE (R9). -/
def execDormantEntryComplete (s : State) : Host.Outcome State Fault Refusal := inService dormantEntryComplete s

/-- The refresh timer's expiry, when it is due in DORMANT (R10): back to QUIET with settling, the quiet timer
started. -/
def refreshTimerExpiry (s : State) : State :=
  if s.rc.rate == .dormant && timerDue s.tick s.rc.refreshTimer then wakeRate s else s

/-- REFRESH_TIMER_EXPIRY (R10). -/
def execRefreshTimerExpiry (s : State) : Host.Outcome State Fault Refusal := inService refreshTimerExpiry s

/-- WAKE_EVENT (R7). -/
def execWakeEvent (w : WakeSource) (s : State) : Host.Outcome State Fault Refusal := inService (takeWake w) s

/-- Settling completes when the settling count has reached 0 (R4). Pairs carry a true mark from the next tick. -/
def settlingComplete (s : State) : State :=
  if s.fe.settling && s.fe.settleCount == 0 then { s with fe := { s.fe with settling := false } } else s

/-- SETTLING_COMPLETE (R4). -/
def execSettlingComplete (s : State) : Host.Outcome State Fault Refusal := inService settlingComplete s

end Sys2Proof.Machine
end

