-- ==== Sys2Proof/Machine/Sampling.lean ====
section
/-! DEFINITION. The Front End's sample pair and what the Zero Tracker and the dwell buffer make of it (R2, R3, R12 to
R16, R39, R172). -/

namespace Sys2Proof.Machine

/-- The Front End produces a pair at this tick: powered, at every tick in ACTIVE and at multiples of 16 in QUIET, one
pair a tick (R2). -/
def State.pairTick (s : State) : Bool :=
  s.fe.powered && !s.fe.pairDone &&
    (match s.fe.pairRate with
     | .active => true
     | .quiet => s.tick.toNat % Config.quietDivider == 0
     | .dormant => false)

/-- One channel tracked on a sample (R13), then judged (R14). -/
def trackChannel (band k warn limit : Nat) (sample : Sample) (c : ZeroChannel) : ZeroChannel :=
  if clippedSample sample then c
  else
    let d := 256 * sample.toInt - c.z256
    if 256 * band < d.natAbs then c
    else
      let z := c.z256 + truncDiv d (2 ^ k)
      { c with z256 := z, zstate := judgeZero warn limit z c.zcal256 }

/-- A channel whose zero a capture or a CALIBRATE has set: z256 = zcal256, so OK (R12, R15). -/
def zeroedChannel (z : Int) : ZeroChannel := ⟨z, z, .ok⟩

/-- A channel's state has changed to LIMIT (R14). -/
def enteredLimit (before after : ZeroChannel) : Bool := before.zstate != .limit && after.zstate == .limit

/-- Tracking on one pair, both channels, with ZERO_LIMIT set when a channel enters LIMIT (R13, R14). DEDUCED: of a
clipped pair the unclipped channel is tracked, as R13 says, though R3 says that a clipped pair is not used for tracking
(assumption 33). -/
def trackPair (cal : Calibrate) (p : Pair) (s : State) : State :=
  let k := s.siteValue Config.defaultK Site.k
  let l := trackChannel cal.band k cal.warn cal.limit p.left s.zero.left
  let r := trackChannel cal.band k cal.warn cal.limit p.right s.zero.right
  let t := { s with zero := { s.zero with left := l, right := r } }
  if enteredLimit s.zero.left l || enteredLimit s.zero.right r then setFault .zeroLimit t else t

/-- The capture count and sums discarded (R16). -/
def discardCapture (s : State) : State :=
  { s with zero := { s.zero with count := 0, sumL := 0, sumR := 0 } }

/-- A pair counted by a capture (R15). -/
def countPair (p : Pair) (z : ZeroTracker) : ZeroTracker :=
  { z with count := z.count + 1, sumL := z.sumL + p.left.toInt, sumR := z.sumR + p.right.toInt }

/-- The zero tracker after a completed capture: for each channel z256 = zcal256 = the sum (R15). -/
def captured (z : ZeroTracker) : ZeroTracker :=
  { left := zeroedChannel z.sumL, right := zeroedChannel z.sumR, capturePending := false, count := 0, sumL := 0,
    sumR := 0 }

/-- A settled pair in NO_TRAIN taken by a capture in flight (R15, R16); a completion that makes the station READY
queues a PRESENCE (R172). -/
def capturePair (p : Pair) (s : State) : State :=
  if p.clipped then discardCapture s
  else
    let z := countPair p s.zero
    if z.count < Config.capturePairs then { s with zero := z }
    else
      let t := { s with zero := captured z }
      if s.conf.site.isSome then offerPresence t else t

/-- The Zero Tracker takes a pair (R13, R15): only with a CALIBRATE held, settled, in NO_TRAIN. -/
def zeroTake (p : Pair) (s : State) : State :=
  match s.conf.cal with
  | none => s
  | some cal =>
    if p.settled && !s.trainHeld then
      if s.zero.capturePending then capturePair p s else trackPair cal p s
    else s

/-- The pair lies within reach of the open calibrated dwell: stamped e to e + 65,534 (R39). -/
def bufferTakes (d : Dwell) (p : Pair) : Bool :=
  !d.aged && ticksSince p.stamp d.entry < Config.maxBuffer

/-- A calibrated dwell is open (R39). -/
def State.calibratedDwell (s : State) : Option Dwell :=
  match s.wheel.dwell, s.pass.snapshot with
  | some d, some n => if n.weighing.isSome then some d else none
  | _, _ => none

/-- The Passage Integrator takes a pair (R39): it replaces the latest pair, and is stored while a calibrated dwell
is open. -/
def passTake (p : Pair) (s : State) : State :=
  let stored :=
    match s.calibratedDwell with
    | none => s.pass.buffer
    | some d => if bufferTakes d p then s.pass.buffer ++ [p] else s.pass.buffer
  { s with pass := { s.pass with latestPair := some p, buffer := stored } }

/-- A settled clipped pair produced in NO_TRAIN sets IDLE_OVERRANGE (R3). -/
def judgeIdle (p : Pair) (s : State) : State :=
  if p.settled && p.clipped && !s.trainHeld then setFault .idleOverrange s else s

/-- The pair the Front End produces at this tick (R2). -/
def State.pairNow (s : State) (left right : Sample) : Pair :=
  { stamp := s.tick, left := left, right := right, settled := s.fe.settledMark }

/-- The Front End produces a pair: its own fault first, then the Zero Tracker, then the Passage Integrator
(assumption 11). -/
def producePair (left right : Sample) (s : State) : State :=
  let p := s.pairNow left right
  passTake p (zeroTake p (judgeIdle p { s with fe := { s.fe with pairDone := true } }))

/-- A pair at this tick, if the Front End produces one (R2). -/
def samplePair (left right : Sample) (s : State) : State := if s.pairTick then producePair left right s else s

/-- SAMPLE_PAIR (R2). -/
def execSamplePair (left right : Sample) (s : State) : Host.Outcome State Fault Refusal :=
  inService (samplePair left right) s

/-- This pair brings the count of a capture in flight to 256 (R15). -/
def State.completesCapture (s : State) (left right : Sample) : Bool :=
  let p := s.pairNow left right
  s.captureInFlight && p.settled && !s.trainHeld && !p.clipped && s.zero.count + 1 == Config.capturePairs

/-- The pair that completes the capture in flight (R15); a pair that completes none is not this event
(assumption 5). -/
def zeroCaptureComplete (left right : Sample) (s : State) : State :=
  if s.pairTick && s.completesCapture left right then producePair left right s else s

/-- ZERO_CAPTURE_COMPLETE (R15). -/
def execZeroCaptureComplete (left right : Sample) (s : State) : Host.Outcome State Fault Refusal :=
  inService (zeroCaptureComplete left right) s

end Sys2Proof.Machine
end

