-- ==== Sys2Proof/Machine/Publication.lean ====
section
/-! DEFINITION. The Publication Table (chapter 9): agreement, the station's own record, a peer's record. -/

namespace Sys2Proof.Machine

/-- The group patterns are equal: the same count, the same size at each place within it (R144, R179). -/
def sameGroups (own : VehicleRecord) (peer : PeerRecord) : Bool :=
  own.groups.length == peer.groupCount && own.groups == peer.sizes.take peer.groupCount

/-- Two vehicle records agree (R144); `tolerance` in units of 10 kg. -/
def agree (tolerance : Nat) (own : VehicleRecord) (peer : PeerRecord) : Bool :=
  own.firstAxle == peer.firstAxle && own.axleCount == peer.axleCount && sameGroups own peer &&
    absDiff own.gross peer.gross ≤ 10 * tolerance

/-- The held agree tolerance (R144). -/
def State.tolerance (s : State) : Nat := s.siteValue 0 Site.agree

/-- The entry of a vehicle ordinal, if any. -/
def findPub (v : Nat) (es : List PubEntry) : Option PubEntry := es.find? (fun e => e.ordinal == v)

/-- The lowest vehicle ordinal of the entries (R143). -/
def lowestPub (es : List PubEntry) : Nat := minOf (es.map PubEntry.ordinal)

/-- A new entry takes a FREE slot; with all 16 held the entry of the lowest ordinal is recycled (R143). -/
def createPub (e : PubEntry) (es : List PubEntry) : List PubEntry :=
  if es.length < Config.publicationSlots then es ++ [e]
  else es.filter (fun x => x.ordinal != lowestPub es) ++ [e]

/-- The entry of ordinal `v` given a new state. -/
def setPub (v : Nat) (st : PubState) (es : List PubEntry) : List PubEntry :=
  es.map (fun e => if e.ordinal = v then { e with state := st } else e)

/-- The entry of ordinal `v` given a new state. -/
def setPubState (v : Nat) (st : PubState) (s : State) : State := { s with pub := setPub v st s.pub }

/-- Offers the VEHICLE frame of an own record (R145). -/
def offerVehicle (r : VehicleRecord) (s : State) : State × Option Nat :=
  offer .vehicle (seqOf r.ordinal) (vehiclePayload r) s

/-- Offers the DISSENT frame of an own record against a peer's (R146, R149). -/
def offerDissent (r : VehicleRecord) (peer : PeerRecord) (s : State) : State × Option Nat :=
  offer .dissent (seqOf r.ordinal) (dissentPayload r peer.sender) s

/-- An own record with no entry (R145): an entry is created and a VEHICLE frame offered; QUEUED, or DROPPED when the
offer is refused (R151). -/
def ownRecordNew (r : VehicleRecord) (s : State) : State :=
  let s := { s with pub := createPub ⟨r.ordinal, .dropped r none⟩ s.pub }
  match offerVehicle r s with
  | (s, some id) => setPubState r.ordinal (.queued r id) s
  | (s, none) => s

/-- A disagreeing own record and peer record at one entry: a DISSENT frame is offered; DISSENT_QUEUED, or DROPPED
when the offer is refused (R146, R149, R151). -/
def dissentFrom (v : Nat) (r : VehicleRecord) (peer : PeerRecord) (s : State) : State :=
  match offerDissent r peer s with
  | (s, some id) => setPubState v (.dissentQueued r peer id) s
  | (s, none) => setPubState v (.dropped r (some peer)) s

/-- The Publication Table takes an own record (R145, R146, R147). -/
def takeOwnRecord (r : VehicleRecord) (s : State) : State :=
  match findPub r.ordinal s.pub with
  | none => ownRecordNew r s
  | some e =>
    match e.state with
    | .awaitingOwn peer =>
      if agree s.tolerance r peer then setPubState r.ordinal (.suppressed r peer) s
      else dissentFrom r.ordinal r peer s
    | .queued _ _ => s
    | .sent _ => s
    | .suppressed _ _ => s
    | .dissentQueued _ _ _ => s
    | .dissentSent _ _ => s
    | .dropped _ _ => s

/-- A peer's record reaches a QUEUED entry (R149): the own VEHICLE frame is cancelled, and a DISSENT frame offered
when the records disagree. -/
def convertQueued (own : VehicleRecord) (ref : Nat) (peer : PeerRecord) (s : State) : State :=
  let s := cancelFrame ref s
  if agree s.tolerance own peer then setPubState peer.ordinal (.suppressed own peer) s
  else dissentFrom peer.ordinal own peer s

/-- The Publication Table takes a peer's record (R148); ordinal 0 is ignored (R179). -/
def takePeerRecord (peer : PeerRecord) (s : State) : State :=
  if peer.ordinal = 0 then s
  else
    match findPub peer.ordinal s.pub with
    | none => { s with pub := createPub ⟨peer.ordinal, .awaitingOwn peer⟩ s.pub }
    | some e =>
      match e.state with
      | .queued own ref => convertQueued own ref peer s
      | .awaitingOwn _ => s
      | .sent _ => s
      | .suppressed _ _ => s
      | .dissentQueued _ _ _ => s
      | .dissentSent _ _ => s
      | .dropped _ _ => s

end Sys2Proof.Machine
end

