-- ==== Sys2Proof/Machine/Assembly.lean ====
section
/-! DEFINITION. The Vehicle Assembler (chapter 8): spacing classes, groups and their limits, the vehicle record. -/

namespace Sys2Proof.Machine

/-- The spacing class (R125). -/
def classOf (b1 b2 b3 : Nat) (spacing : Option Nat) : SpacingClass :=
  match spacing with
  | none => .coupling
  | some s => if s < b1 then .bogie else if s < b2 then .coupling else if s < b3 then .body else .gap

/-- The class of an axle under the held SITE (R125); COUPLING while none is held, which no train meets
(assumption 21). -/
def State.axleClass (s : State) (a : ConsensusAxle) : SpacingClass :=
  s.siteValue .coupling (fun st => classOf st.b1 st.b2 st.b3 a.spacing)

/-- The axle joins the last group (R129). -/
def growLast : List Nat → List Nat
  | [] => [1]
  | [g] => [g + 1]
  | g :: h :: gs => g :: growLast (h :: gs)

/-- The size of the last group. -/
def lastSize (groups : List Nat) : Nat := groups.getLast?.getD 0

/-- The totals of a vehicle's weighed axles (R136). -/
def totalOf (f : Loads → Nat) (axles : List VehicleAxle) : Nat :=
  (axles.map (fun a => (a.axle.loads.map f).getD 0)).sum

/-- The mean speed of a vehicle, a present one held at 65,534 (R138). -/
def vehicleSpeed (axles : List VehicleAxle) : Option Nat :=
  (floorMean (axles.filterMap (fun a => a.axle.speed))).map (fun v => min v Config.maxMeanSpeed)

/-- PARTIAL and DOUBTFUL, judged over the axles at the close (R137). -/
def axleFlags (axles : List VehicleAxle) : VehicleFlags :=
  { partly := axles.any (fun a => a.axle.flags.unweighed), doubtful := axles.any (fun a => a.axle.flags.doubtful) }

/-- The flag summary (R138). -/
def flagSummary (axles : List VehicleAxle) : FlagSet := axles.foldl (fun fs a => fs ||| a.axle.noted) 0

/-- The vehicle record formed at a close whose own flags are `closing` (R136). -/
def recordOf (trainNo : BitVec 8) (closing : VehicleFlags) (v : OpenVehicle) : VehicleRecord :=
  let l := totalOf Loads.left v.axles
  let r := totalOf Loads.right v.axles
  { ordinal := v.ordinal, trainNo := trainNo, firstAxle := v.firstAxle, axleCount := v.axles.length,
    groups := v.groups, left := l, right := r, gross := l + r, speed := vehicleSpeed v.axles,
    flags := (v.flags.join closing).join (axleFlags v.axles), summary := flagSummary v.axles }

/-- The open vehicle, if any, closes with the close's own flags and its record goes to the Publication Table (R136,
R139). -/
def closeVehicle (closing : VehicleFlags) (s : State) : State :=
  match s.asm.vehicle with
  | none => s
  | some v =>
    takeOwnRecord (recordOf s.train.number closing v) { s with asm := { s.asm with vehicle := none } }

/-- The flags a vehicle opens with (R127), `split` added by R129 and R130. -/
def openingFlags (counter : Nat) (fullClose split : Bool) (cls : SpacingClass) : VehicleFlags :=
  { first := counter == 0, unresolved := fullClose && (cls == .bogie || cls == .body), gap := cls == .gap,
    split := split }

/-- An axle opens a vehicle (R127, R128). -/
def openVehicle (split : Bool) (a : VehicleAxle) (s : State) : State :=
  let n := min (s.asm.counter + 1) Config.maxVehicle
  { s with asm :=
      { vehicle := some { ordinal := n, firstAxle := a.axle.ordinal, groups := [1], axles := [a],
                          flags := openingFlags s.asm.counter s.asm.fullClose split a.cls },
        counter := n, fullClose := false } }

/-- An axle is appended and the twelve-axle test follows (R133). -/
def appendAxle (v : OpenVehicle) (groups : List Nat) (unresolved : Bool) (a : VehicleAxle) (s : State) : State :=
  let v := { v with groups := groups, axles := v.axles ++ [a],
                    flags := { v.flags with unresolved := v.flags.unresolved || unresolved } }
  let s := { s with asm := { s.asm with vehicle := some v } }
  if v.axles.length == 12 then
    let s := closeVehicle { unresolved := true } s
    { s with asm := { s.asm with fullClose := true } }
  else s

/-- The vehicle closes for want of a fourth group and the axle opens the next (R129, R130). -/
def splitAt (a : VehicleAxle) (s : State) : State := openVehicle true a (closeVehicle { split := true } s)

/-- A BOGIE axle at an open vehicle (R129). -/
def takeBogie (v : OpenVehicle) (a : VehicleAxle) (s : State) : State :=
  if lastSize v.groups < 4 then appendAxle v (growLast v.groups) false a s
  else if v.groups.length < 3 then appendAxle v (v.groups ++ [1]) true a s
  else splitAt a s

/-- A BODY axle at an open vehicle (R130). -/
def takeBody (v : OpenVehicle) (a : VehicleAxle) (s : State) : State :=
  if v.groups.length < 3 then appendAxle v (v.groups ++ [1]) false a s else splitAt a s

/-- The Vehicle Assembler takes a consensus axle (R126). -/
def takeAxle (a : ConsensusAxle) (s : State) : State :=
  let va : VehicleAxle := ⟨a, s.axleClass a⟩
  match s.asm.vehicle with
  | none => openVehicle false va s
  | some v =>
    match va.cls with
    | .bogie => takeBogie v va s
    | .body => takeBody v va s
    | .coupling => openVehicle false va (closeVehicle {} s)
    | .gap => openVehicle false va (closeVehicle { gap := true } s)

end Sys2Proof.Machine
end

