-- ==== Sys2Proof/Machine/Decision.lean ====
section
/-! DEFINITION. Consensus arithmetic (chapter 7): one entry's contributions into one consensus axle, a pure function
of the contributions, the expected set and three SITE values (R108). -/

namespace Sys2Proof.Machine

/-- A present contribution with its position (R108). -/
structure Contribution where
  pos  : Pos
  part : Partial
  deriving DecidableEq, Repr

/-- What a decision reads of the settings (R108): exclusion mask, quorum, spread limit, station count. -/
structure DecisionSettings where
  mask   : FlagSet
  quorum : Nat
  spread : Nat
  count  : Nat
  deriving DecidableEq, Repr

/-- The present contributions in ascending order of position (R108). -/
def Collecting.present (c : Collecting) : List Contribution :=
  (List.finRange 8).filterMap (fun p => (c.contribs[p]).map (fun q => ⟨p, q⟩))

/-- The spacings the contributions carry (R109). -/
def spacingsOf (cs : List Contribution) : List Nat := cs.filterMap (fun x => x.part.spacing)

/-- The slip test runs when at least three present contributions carry a spacing (R109). -/
def slipTestRuns (cs : List Contribution) : Bool := 3 ≤ (spacingsOf cs).length

/-- A spacing is more than a quarter away from the reference (R110). -/
def isSlip (m spacing : Nat) : Bool := 25 * m < absDiff spacing m * 100

/-- The slip result of one contribution: none when the test does not run or the contribution carries no spacing
(R109, R111). -/
def slipResult (cs : List Contribution) (x : Contribution) : Option Bool :=
  if slipTestRuns cs then
    match lowerMedian (spacingsOf cs), x.part.spacing with
    | some m, some sp => some (isSlip m sp)
    | _, _ => none
  else none

/-- The contribution was judged a slip (R110). -/
def slipped (cs : List Contribution) (x : Contribution) : Bool := slipResult cs x == some true

/-- The flags that exclude whatever the mask holds (R113). -/
def alwaysExcluded : FlagSet :=
  flagWhen true .noSamples ||| flagWhen true .zeroLimit ||| flagWhen true .brokenDwell

/-- Eligible for the loads (R113). -/
def eligible (mask : FlagSet) (cs : List Contribution) (x : Contribution) : Bool :=
  !slipped cs x && x.part.loads.isSome && !sharesFlag x.part.flags alwaysExcluded && !sharesFlag x.part.flags mask

/-- The loads of the eligible contributions, in ascending order of position (R113). -/
def eligibleLoads (mask : FlagSet) (cs : List Contribution) : List Loads :=
  (cs.filter (eligible mask cs)).filterMap (fun x => x.part.loads)

/-- The trim (R115): of four or more, the first and the last in ascending order of axle load are dropped, equal axle
loads standing in ascending order of position. -/
def trim (ls : List Loads) : List Loads :=
  if 4 ≤ ls.length then ((sortBy Loads.axle ls).drop 1).dropLast else ls

/-- The kept loads of a decision (R115). -/
def keptLoads (mask : FlagSet) (cs : List Contribution) : List Loads := trim (eligibleLoads mask cs)

/-- The consensus loads (R116); absent when no contribution is eligible (R114). -/
def consensusLoads (kept : List Loads) : Option Loads :=
  if kept.isEmpty then none
  else some ⟨roundMean (kept.map Loads.left), roundMean (kept.map Loads.right)⟩

/-- The spread of the kept axle loads (R118); 0 for one. -/
def spreadOf (kept : List Loads) : Nat := maxOf (kept.map Loads.axle) - minOf (kept.map Loads.axle)

/-- SPREAD (R118). -/
def spreadFlag (limit : Nat) (kept : List Loads) : Bool := 2 ≤ kept.length && 100 * limit < spreadOf kept

/-- LOW_QUORUM (R117): Q is taken as at least 1 and at most N. -/
def lowQuorumFlag (quorum count c : Nat) : Bool := 0 < c && c < clampNat 1 count quorum

/-- The position is awaited and has not contributed (R95, R122). -/
def Collecting.awaited (c : Collecting) (p : Pos) : Bool := c.expected[p] && (c.contribs[p]).isNone

/-- The awaited positions (R95). -/
def Collecting.awaitedList (c : Collecting) : List Pos := (List.finRange 8).filter c.awaited

/-- The noted flags (R121). -/
def notedFlags (cs : List Contribution) : FlagSet := cs.foldl (fun fs x => fs ||| x.part.flags) 0

/-- The consensus axle of a decision (R108 to R123), with the flag of its trigger (R98). -/
def decideAxle (d : DecisionSettings) (c : Collecting) (t : Trigger) : ConsensusAxle :=
  let cs := c.present
  let el := eligibleLoads d.mask cs
  let kept := trim el
  { ordinal := c.ordinal
    loads := consensusLoads kept
    speed := floorMean (cs.filterMap (fun x => x.part.speed))
    spacing := lowerMedian (spacingsOf cs)
    flags := ConsensusFlags.withTrigger
      { missing := !c.awaitedList.isEmpty
        lowQuorum := lowQuorumFlag d.quorum d.count el.length
        unweighed := el.isEmpty
        spread := spreadFlag d.spread kept
        slipped := cs.any (slipped cs) } t
    noted := notedFlags cs }

/-- A hole (R101), carrying FORCED when a forced advance, the close or the cut hands it (R93, R104, R105). -/
def holeAxle (ordinal : Nat) (forced : Bool) : ConsensusAxle :=
  { ordinal := ordinal, loads := none, speed := none, spacing := none,
    flags := { hole := true, unweighed := true, forced := forced }, noted := 0 }

end Sys2Proof.Machine
end

