-- ==== Sys2Proof/Machine/Roster.lean ====
section
/-! DEFINITION. The Roster (chapter 5): what a peer's frames, a decision's reports, a close and a RESTART do to its
entries. -/

namespace Sys2Proof.Machine

/-- One entry changed. -/
def updatePeer (p : Pos) (f : RosterEntry → RosterEntry) (r : Vector RosterEntry 8) : Vector RosterEntry 8 :=
  r.set p (f r[p])

/-- A frame from the peer (R79): misses 0; LIVE unless DESYNC. -/
def heard (e : RosterEntry) : RosterEntry :=
  match e.state with
  | .unknown => { e with state := .live, misses := 0 }
  | .live => { e with state := .live, misses := 0 }
  | .silent => { e with state := .live, misses := 0 }
  | .desync => { e with misses := 0 }

/-- What a frame of a kind says of readiness (R80): AXLE true, PRESENCE by its configuration state, others
nothing. -/
def readyWord (k : Kind) (payload : List Byte) (before : Bool) : Bool :=
  match k with
  | .axle => true
  | .presence => presenceReady payload
  | .train => before
  | .vehicle => before
  | .dissent => before
  | .restart => before
  | .calibrate => before
  | .site => before

/-- The Roster takes a station frame (R79, R80). -/
def rosterTake (k : Kind) (f : RxFrame) (s : State) : State :=
  let ready := fun (e : RosterEntry) => readyWord k f.payload e.ready
  { s with roster := updatePeer f.position (fun e => { (heard e) with ready := ready e }) s.roster }

/-- A decision reports the peer present or absent (R82). A SILENT peer whose misses a present report has set to 0 takes
misses 3 again when reported absent: DESIGN CHOICE, R82's `misses stay 3` taken as the value (assumption 30). -/
def reportPresence (present : Bool) (e : RosterEntry) : RosterEntry :=
  if present then { e with misses := 0 }
  else
    match e.state with
    | .live =>
      if e.misses + 1 < 3 then { e with misses := e.misses + 1 } else { e with state := .silent, misses := 3 }
    | .silent => { e with misses := 3 }
    | .desync => { e with misses := min (e.misses + 1) 3 }
    | .unknown => e

/-- A decision reports the peer's slip result (R84). UNKNOWN has no row in R84: no effect (assumption 17). A DESYNC peer
whose slips a non-slip result has set to 0 takes slips 3 again at a slip: DESIGN CHOICE, R84's `slips stay 3` taken as
the value (assumption 31). -/
def reportSlip (slip : Bool) (e : RosterEntry) : RosterEntry :=
  match e.state, slip with
  | .unknown, _ => e
  | .live, true => if e.slips + 1 < 3 then { e with slips := e.slips + 1 } else { e with state := .desync, slips := 3 }
  | .silent, true =>
    if e.slips + 1 < 3 then { e with slips := e.slips + 1 } else { e with state := .desync, slips := 3 }
  | .desync, true => { e with slips := 3 }
  | .live, false => { e with slips := 0 }
  | .silent, false => { e with slips := 0 }
  | .desync, false => { e with slips := 0 }

/-- The train closes (R85): DESYNC entries become LIVE with misses and slips 0, the others' slips are 0. -/
def releaseEntry (e : RosterEntry) : RosterEntry :=
  match e.state with
  | .desync => { e with state := .live, misses := 0, slips := 0 }
  | .unknown => { e with slips := 0 }
  | .live => { e with slips := 0 }
  | .silent => { e with slips := 0 }

/-- The Roster's release at a close (R85). -/
def releaseRoster (s : State) : State := { s with roster := s.roster.map releaseEntry }

/-- The peer is in new expected sets (R81). -/
def RosterEntry.awaited (e : RosterEntry) : Bool := e.state == .live && e.ready

/-- The expected set of an entry opened now (R81, R94): the LIVE and ready peers, and the own position at
CONTRIBUTING standing. -/
def State.expectedSet (s : State) : Vector Bool 8 :=
  Vector.ofFn (fun p : Pos => if p = s.own then s.train.standing == .contributing else (s.roster[p]).awaited)

end Sys2Proof.Machine
end

