-- ==== Sys2Proof/Machine/Table.lean ====
section
/-! DEFINITION. The Consensus Table (chapter 6): the window, taking a contribution, deciding an entry, handing over,
the flush and the cut. -/

namespace Sys2Proof.Machine

/-- The ordinal of a slot's entry (R88). -/
def Slot.ordinal? (sl : Slot) : Option Nat :=
  match sl with
  | .free => none
  | .opened c _ => some c.ordinal
  | .decided c _ => some c.ordinal

/-- The slot is FREE. -/
def Slot.isFree (sl : Slot) : Bool :=
  match sl with
  | .free => true
  | .opened _ _ => false
  | .decided _ _ => false

/-- The ordinal of a DECIDED slot's entry. -/
def Slot.decidedOrdinal? (sl : Slot) : Option Nat :=
  match sl with
  | .free => none
  | .opened _ _ => none
  | .decided c _ => some c.ordinal

/-- The slot of the entry for an ordinal (R89). -/
def slotOf (slots : Vector Slot 16) (a : Nat) : Option (Fin 16) :=
  (List.finRange 16).find? (fun i => (slots[i]).ordinal? == some a)

/-- The lowest-numbered FREE slot (R94). -/
def freeSlot (slots : Vector Slot 16) : Option (Fin 16) :=
  (List.finRange 16).find? (fun i => (slots[i]).isFree)

/-- One slot given a new content. -/
def setSlot (i : Fin 16) (sl : Slot) (s : State) : State :=
  { s with table := { s.table with slots := s.table.slots.set i sl } }

/-- The ordinals of the DECIDED entries. -/
def decidedOrdinals (slots : Vector Slot 16) : List Nat := slots.toList.filterMap Slot.decidedOrdinal?

/-! ### Handing over -/

/-- A consensus axle is handed to the Vehicle Assembler, next_expected and the handed count rise by one (R100,
R102). -/
def handAxle (a : ConsensusAxle) (s : State) : State :=
  takeAxle a { s with table := { s.table with
    nextExpected := s.table.nextExpected + 1,
    handedCount := min (s.table.handedCount + 1) Config.max16 } }

/-- A DECIDED entry is handed over and its slot freed (R100). -/
def handEntry (i : Fin 16) (a : ConsensusAxle) (s : State) : State := handAxle a (setSlot i .free s)

/-- The hole test of R101 for next_expected, when it has no entry. -/
def State.holeDue (s : State) : Bool :=
  (decidedOrdinals s.table.slots).any (fun o => s.table.nextExpected < o) &&
    (s.train.standing != .contributing || s.table.nextExpected ≤ s.wheel.counter)

/-- One hand-over, if one is due (R100, R101). -/
def handStep (s : State) : Option State :=
  match slotOf s.table.slots s.table.nextExpected with
  | some i =>
    match s.table.slots[i] with
    | .decided _ a => some (handEntry i a s)
    | .opened _ _ => none
    | .free => none
  | none => if s.holeDue then some (handAxle (holeAxle s.table.nextExpected false) s) else none

/-- Hand-overs while one is due, at most `n`. -/
def handRun : Nat → State → State
  | 0, s => s
  | n + 1, s =>
    match handStep s with
    | none => s
    | some t => handRun n t

/-- The hand-over chain of R100 and R101. Each hand-over raises next_expected, and none is due once no DECIDED entry
stands at or above it, which bounds their number. -/
def handChain (s : State) : State :=
  handRun (maxOf (decidedOrdinals s.table.slots) + 1 - s.table.nextExpected) s

/-! ### Deciding -/

/-- The settings a decision reads (R108). -/
def State.decisionSettings (s : State) : DecisionSettings :=
  s.siteValue ⟨0, 1, 0, s.conf.straps.count⟩ (fun st => ⟨st.mask, st.quorum, st.spread, s.conf.straps.count⟩)

/-- What a decision tells the Roster of one position (R82, R84, R111): present or absent for each expected peer, and
the slip result of each peer whose contribution carries a spacing. The own position is not reported. -/
def reportPeer (own : Pos) (c : Collecting) (p : Pos) (e : RosterEntry) : RosterEntry :=
  if p = own then e
  else
    let e := if c.expected[p] then reportPresence (c.contribs[p]).isSome e else e
    match (c.contribs[p]).bind (fun q => slipResult c.present ⟨p, q⟩) with
    | some slip => reportSlip slip e
    | none => e

/-- The Roster takes a decision's reports. -/
def reportDecision (c : Collecting) (s : State) : State :=
  { s with roster := Vector.ofFn (fun p : Pos => reportPeer s.own c p s.roster[p]) }

/-- The slip result of the own contribution (R111). -/
def ownSlip (own : Pos) (c : Collecting) : Option Bool :=
  (c.contribs[own]).bind (fun q => slipResult c.present ⟨own, q⟩)

/-- The Train Sequencer takes an own slip result (R112): at CONTRIBUTING a third slip in a row makes the standing
DESYNC and cancels the queued AXLE frames (R59). DESIGN CHOICE: before the decision's hand-over (assumption 32). -/
def takeOwnSlip (r : Option Bool) (s : State) : State :=
  match r with
  | none => s
  | some slip =>
    if s.train.standing == .contributing then
      if slip then
        if s.train.slips + 1 < 3 then { s with train := { s.train with slips := s.train.slips + 1 } }
        else cancelAxles { s with train := { s.train with slips := 3, standing := .desync } }
      else { s with train := { s.train with slips := 0 } }
    else s

/-- The entry of slot `i`, holding `c`, is decided (R98): DECIDED with its consensus axle, reports to the Roster and
the Train Sequencer, the latest decided speed. The hand-over follows, after the cancelling of AXLE frames that a third
own slip brings (assumption 32). -/
def decideEntry (i : Fin 16) (c : Collecting) (t : Trigger) (s : State) : State :=
  let a := decideAxle s.decisionSettings c t
  let s := setSlot i (.decided c a) s
  let s := { s with table := { s.table with latestSpeed := some a.speed } }
  takeOwnSlip (ownSlip s.own c) (reportDecision c s)

/-! ### Forced steps: the forced advance, the flush, the cut -/

/-- One forced step at next_expected (R93, R104, R105): an OPEN entry is decided with FORCED and handed over, a
DECIDED one handed over, a missing ordinal handed over as a hole with FORCED. -/
def forcedStep (s : State) : State :=
  match slotOf s.table.slots s.table.nextExpected with
  | none => handAxle (holeAxle s.table.nextExpected true) s
  | some i =>
    match s.table.slots[i] with
    | .opened c _ => handEntry i (decideAxle s.decisionSettings c .forced) (decideEntry i c .forced s)
    | .decided _ a => handEntry i a s
    | .free => s

/-- A forced advance (R93): forced steps, each followed by the hand-over chain, while ordinal `a` lies beyond the
window; at most `n` steps. -/
def forceAdvance : Nat → Nat → State → State
  | 0, _, s => s
  | n + 1, a, s =>
    if s.table.nextExpected + Config.windowSpan < a then forceAdvance n a (handChain (forcedStep s)) else s

/-- Forced steps up to and with ordinal `last` (R104, R105), at most `n`; no hand-over chain runs between them
(assumption 12). -/
def handUpTo : Nat → Nat → State → State
  | 0, _, s => s
  | n + 1, last, s => if s.table.nextExpected ≤ last then handUpTo n last (forcedStep s) else s

/-- Every ordinal from next_expected to `last` handed over by forced steps. -/
def flushTo (last : Nat) (s : State) : State := handUpTo (last + 1 - s.table.nextExpected) last s

/-- Every entry freed without a report (R105, R107). -/
def freeAll (s : State) : State := { s with table := { s.table with slots := Vector.replicate 16 .free } }

/-- The highest known ordinal (R104): the own counter counts at CONTRIBUTING standing. -/
def State.highestKnown (s : State) : Nat :=
  max s.table.highestOpened (if s.train.standing == .contributing then s.wheel.counter else 0)

/-! ### Taking a contribution -/

/-- The crossing time of one section at speed `v` (R96). -/
def crossingTicks (len v : Nat) : Nat := len * 8192 / (10 * v)

/-- The length of a deadline (R96): R awaited positions at the speed just seen. -/
def deadlineTicks (len awaited : Nat) (speed : Option Nat) : Nat :=
  match speed with
  | none => Config.deadlineCap
  | some v =>
    if v = 0 then Config.deadlineCap
    else min (awaited * crossingTicks len v + Config.deadlineAllowance) Config.deadlineCap

/-- A partial placed at a position, which joins the expected set (R95). -/
def Collecting.place (c : Collecting) (p : Pos) (q : Partial) : Collecting :=
  { c with contribs := c.contribs.set p (some q), expected := c.expected.set p true }

/-- A contribution stored in the entry of slot `i` that holds `c` (R95): decided as complete when no position is
awaited, else its deadline computed afresh (R96). -/
def storeAt (i : Fin 16) (c : Collecting) (p : Pos) (q : Partial) (s : State) : State :=
  let c := c.place p q
  let r := c.awaitedList.length
  if r = 0 then handChain (decideEntry i c .complete s)
  else setSlot i (.opened c (tickAfter s.tick (deadlineTicks s.conf.straps.length r q.speed))) s

/-- A new entry's contents (R94). -/
def State.newEntry (s : State) (a : Nat) : Collecting :=
  { ordinal := a, contribs := Vector.replicate 8 none, expected := s.expectedSet }

/-- A contribution inside the window (R94, R95). -/
def storeInWindow (p : Pos) (q : Partial) (s : State) : State :=
  match slotOf s.table.slots q.ordinal with
  | some i =>
    match s.table.slots[i] with
    | .opened c _ => storeAt i c p q s
    | .decided _ _ => s
    | .free => s
  | none =>
    match freeSlot s.table.slots with
    | none => s
    | some i =>
      storeAt i (s.newEntry q.ordinal) p q
        { s with table := { s.table with highestOpened := max s.table.highestOpened q.ordinal } }

/-- The table takes a contribution (R91): in RUNNING, in the train's direction, late below next_expected (R92),
after a forced advance above the window (R93). -/
def takeContribution (p : Pos) (q : Partial) (s : State) : State :=
  if s.holdsTrains && s.train.state == .running && q.dir == s.train.dir then
    if q.ordinal < s.table.nextExpected then s
    else storeInWindow p q (forceAdvance (q.ordinal - s.table.nextExpected - Config.windowSpan) q.ordinal s)
  else s

/-- The expiry of a deadline (R98): an OPEN entry whose deadline the tick count has reached is decided with TIMED_OUT;
the hand-over follows. -/
def deadlineExpiry (slot : Fin 16) (s : State) : State :=
  match s.table.slots[slot] with
  | .opened c deadline => if tickReached s.tick deadline then handChain (decideEntry slot c .deadline s) else s
  | .decided _ _ => s
  | .free => s

/-- DEADLINE_EXPIRY (R98). -/
def execDeadlineExpiry (slot : Fin 16) (s : State) : Host.Outcome State Fault Refusal :=
  inService (deadlineExpiry slot) s

end Sys2Proof.Machine
end

