-- ==== Sys2Proof/Machine/Trains.lean ====
section
/-! DEFINITION. The Train Sequencer (chapter 10): opening, the close timer, abandonment, closing, and what TRAIN and
AXLE frames mean to it. -/

namespace Sys2Proof.Machine

/-! ### The close timer -/

/-- The close timer's length at speed `v` (R160). -/
def closeTicks (b3 : Nat) (v : Option Nat) : Nat :=
  match v with
  | none => Config.closeMax
  | some v => if v = 0 then Config.closeMax else clampNat Config.closeMin Config.closeMax (b3 * 8192 / v)

/-- The speed that sizes the close timer: the latest decided speed once an axle has been decided, else the latest
partial speed (R160). -/
def State.closeSpeed (s : State) : Option Nat :=
  match s.table.latestSpeed with
  | some v => v
  | none => s.pass.latestSpeed

/-- The close timer started or restarted, its length computed afresh (R160). B3 counts as 0 while no SITE is held, which
no train meets (assumption 21). -/
def restartClose (s : State) : State :=
  { s with train := { s.train with
      closeTimer := some (tickAfter s.tick (closeTicks (s.siteValue 0 Site.b3) s.closeSpeed)) } }

/-! ### Opening -/

/-- The standing an open gives a station that is not late: CONTRIBUTING if READY, else NOT_READY (R157, R158). -/
def State.openStanding (s : State) : Standing := if s.configState = .ready then .contributing else .notReady

/-- A train opens (R156), with the direction, standing and next_expected of its cause. -/
def openTrain (d : Direction) (st : Standing) (next : Nat) (s : State) : State :=
  let s := { s with train :=
    { s.train with state := .running, dir := d, standing := st, slips := 0, ownClose := none, peerClose := none,
                   openFrame := none, closeFrame := none, number := s.train.number + 1 } }
  let s := clearCounter s
  let s := { s with pass := { s.pass with latestSpeed := none } }
  let s := { s with table := { s.table with nextExpected := next, highestOpened := 0, handedCount := 0,
                                            latestSpeed := none } }
  let s := { s with asm := { s.asm with counter := 0, fullClose := false }, pub := [] }
  restartClose (requestActive (discardCapture s))

/-- Offers a TRAIN frame of the station (R177): its sequence is the train number modulo 64 (R62). -/
def offerTrain (subtype ordinal vehicles : Nat) (reversed desync : Bool) (s : State) : State × Option Nat :=
  offer .train (seqOf s.train.number.toNat)
    (trainPayload subtype s.train.dir s.train.number ordinal vehicles reversed desync) s

/-- An own detector event opens a train and a TRAIN-OPEN is offered (R157); a refused offer leaves the own open frame
absent (R166). -/
def openFromDetector (d : Direction) (s : State) : State :=
  match offerTrain trainOpenSubtype 0 0 false false (openTrain d s.openStanding 1 s) with
  | (s, id) => { s with train := { s.train with openFrame := id } }

/-- The Train Sequencer takes an accepted own detector event (R157, R160). -/
def trainTakesDetector (d : Direction) (s : State) : State :=
  if s.holdsTrains then
    match s.train.state with
    | .noTrain => openFromDetector d s
    | .running => restartClose s
    | .abandoned => restartClose s
  else s

/-! ### Abandonment -/

/-- The reversal ordinal: own counter plus one, held at 65,535 (R35, R163). -/
def State.reversalOrdinal (s : State) : Nat := min (s.wheel.counter + 1) Config.max16

/-- The cut at reversal ordinal `r` (R105): every ordinal below `r` up to the highest known is handed over, the rest
freed without a report. -/
def cutAt (r highest : Nat) (s : State) : State := freeAll (flushTo (min (r - 1) highest) s)

/-- The steps on entering ABANDONED (R164). The highest known ordinal is read before step 1 clears the counter. -/
def enterAbandoned (r : Nat) (s : State) : State :=
  let highest := s.highestKnown
  let s := cancelAxles (clearCounter (discardDwell s))
  let s := cutAt r highest s
  let s := closeVehicle { reversed := true } s
  restartClose { s with train := { s.train with state := .abandoned } }

/-- Offers the TRAIN-REVERSAL of an abandonment the station announces (R163). -/
def offerReversal (r : Nat) (s : State) : State := (offerTrain trainReversalSubtype r 0 false false s).1

/-- The train is abandoned and announced (R163): the TRAIN-REVERSAL is offered before the steps of R164
(assumption 10). -/
def abandonAnnounced (r : Nat) (s : State) : State := enterAbandoned r (offerReversal r s)

/-! ### Closing -/

/-- The close record as the close sequence leaves it (R162). -/
def State.closeRecord (s : State) : CloseRecord :=
  { handed := s.table.handedCount, vehicles := s.asm.counter, reversed := s.train.state == .abandoned,
    desync := s.train.standing == .desync }

/-- A peer's TRAIN-CLOSE matches a close record: the ordinal and the vehicle count, not the flags (R162). -/
def closeMatches (f : TrainFrame) (c : CloseRecord) : Bool := f.ordinal == c.handed && f.vehicles == c.vehicles

/-- Step 4 of the close (R161, R162): the close record is formed, and a TRAIN-CLOSE offered unless a peer's matches
it. -/
def formClose (s : State) : State :=
  let c := s.closeRecord
  let s := { s with train := { s.train with ownClose := some c } }
  if s.train.peerClose.any (fun f => closeMatches f c) then s
  else
    match offerTrain trainCloseSubtype c.handed c.vehicles c.reversed c.desync s with
    | (s, id) => { s with train := { s.train with closeFrame := id } }

/-- Steps 2 and 3 of the close (R161): the flush and the LAST vehicle of a train that closes in RUNNING. In ABANDONED
they find nothing (R106, R134). -/
def closeFlush (highest : Nat) (s : State) : State :=
  match s.train.state with
  | .running => closeVehicle { last := true } (flushTo highest s)
  | .abandoned => s
  | .noTrain => s

/-- The close of a train, its six steps in order (R161). -/
def closeTrain (s : State) : State :=
  let highest := s.highestKnown
  let s := cancelAxles (discardDwell s)
  let s := closeFlush highest s
  let s := formClose s
  let s := releaseRoster s
  let s := clearCounter { s with train := { s.train with state := .noTrain, closeTimer := none } }
  requestQuiet s

/-- The close timer's expiry, when it is due while a train is held (R161, R164). -/
def closeTimerExpiry (s : State) : State :=
  if s.trainHeld && timerDue s.tick s.train.closeTimer then closeTrain s else s

/-- CLOSE_TIMER_EXPIRY (R161). -/
def execCloseTimerExpiry (s : State) : Host.Outcome State Fault Refusal := inService closeTimerExpiry s

/-! ### Peers' frames -/

/-- The own TRAIN-OPEN, if queued, is cancelled (R158). -/
def cancelOpen (s : State) : State :=
  match s.train.openFrame with
  | none => s
  | some id =>
    let s := cancelFrame id s
    { s with train := { s.train with openFrame := none } }

/-- The Train Sequencer takes a peer's TRAIN-OPEN (R158). -/
def takeTrainOpen (f : TrainFrame) (s : State) : State :=
  if s.holdsTrains then
    match s.train.state with
    | .noTrain => openTrain f.dir s.openStanding 1 s
    | .running => if f.dir = s.train.dir then cancelOpen s else abandonAnnounced s.reversalOrdinal s
    | .abandoned => s
  else s

/-- The Train Sequencer takes a peer's TRAIN-REVERSAL (R163): in RUNNING, at the ordinal it carries. -/
def takeTrainReversal (f : TrainFrame) (s : State) : State :=
  if s.holdsTrains && s.train.state == .running then enterAbandoned f.ordinal s else s

/-- The own TRAIN-CLOSE still queued is cancelled when a peer's matches the own close record (R162). -/
def answerClose (f : TrainFrame) (s : State) : State :=
  match s.train.closeFrame with
  | none => s
  | some id =>
    if s.train.ownClose.any (fun c => closeMatches f c) then
      let s := cancelFrame id s
      { s with train := { s.train with closeFrame := none } }
    else s

/-- The first TRAIN-CLOSE heard while a train is held is kept (R162). -/
def keepClose (f : TrainFrame) (s : State) : State :=
  match s.train.peerClose with
  | none => { s with train := { s.train with peerClose := some f } }
  | some _ => s

/-- The Train Sequencer takes a peer's TRAIN-CLOSE (R162). -/
def takeTrainClose (f : TrainFrame) (s : State) : State :=
  if s.holdsTrains then
    match s.train.state with
    | .noTrain => answerClose f s
    | .running => keepClose f s
    | .abandoned => keepClose f s
  else s

/-- The Train Sequencer takes a peer's AXLE frame (R159): it opens a train in NO_TRAIN, JOINED above ordinal 1, and
restarts the close timer otherwise. -/
def trainTakesAxle (q : Partial) (s : State) : State :=
  if s.holdsTrains then
    match s.train.state with
    | .noTrain =>
      if q.ordinal ≤ 1 then openTrain q.dir s.openStanding 1 s else openTrain q.dir .joined q.ordinal s
    | .running => restartClose s
    | .abandoned => restartClose s
  else s

end Sys2Proof.Machine
end

