-- ==== Sys2Proof/Machine/Passage.lean ====
section
/-! DEFINITION. The Passage Integrator (chapter 3): entry snapshot, plateau, wheel loads, quality checks, the partial
and where it goes. -/

namespace Sys2Proof.Machine

/-- The entry snapshot (R38). -/
def State.entrySnapshot (s : State) (ordinal : Nat) : Snapshot :=
  { ordinal := ordinal, entry := s.tick, zL := s.zero.left.z256, zR := s.zero.right.z256,
    zstateL := s.zero.left.zstate, zstateR := s.zero.right.zstate,
    weighing := s.conf.cal.map (fun c => ⟨c.spanL, c.spanR, c.rounding⟩) }

/-- The buffer of a dwell that opens now: the latest pair first if it carries the entry tick, for a calibrated dwell
(R39, R40). -/
def State.openingBuffer (s : State) : List Pair :=
  match s.conf.cal, s.pass.latestPair with
  | some _, some p => if p.stamp = s.tick then [p] else []
  | _, _ => []

/-- The Passage Integrator opens a dwell with this ordinal (R38, R39, R41). -/
def openPassage (ordinal : Nat) (s : State) : State :=
  { s with pass := { s.pass with buffer := s.openingBuffer, snapshot := some (s.entrySnapshot ordinal) } }

/-- The effective dwell length (R42). -/
def effectiveDwell (d : Nat) : Nat := min d Config.maxBuffer

/-- The guard (R42). -/
def guardTicks (d : Nat) : Nat := effectiveDwell d / 8

/-- The plateau: the stored pairs with e + g ≤ t < e + d_eff - g (R42). -/
def plateau (e : Tick) (d : Nat) (buffer : List Pair) : List Pair :=
  buffer.filter (fun p => guardTicks d ≤ ticksSince p.stamp e &&
    ticksSince p.stamp e < effectiveDwell d - guardTicks d)

/-- The rounded wheel load of a channel, before the clamps (R44, R45). -/
def rawLoad (r : Rounding) (sp : Span) (z : Int) (np : Nat) (sum : Int) : Int :=
  let num := (256 * sum - (np : Int) * z) * (sp.mantissa : Int)
  let den := np * 2 ^ (sp.exponent + 8)
  match r with
  | .nearest => roundHalfEven num den
  | .towardZero => truncDiv num den

/-- The wheel load after the clamps (R46). -/
def clampLoad (w : Int) : Nat := min w.toNat Config.max16

/-- NEGATIVE for one channel (R46). -/
def negativeLoad (w : Int) : Bool := w < 0

/-- SATURATED for one channel (R46). -/
def saturatedLoad (w : Int) : Bool := (Config.max16 : Int) < w

/-- The quality flags of section 3.4, under the held SITE; none is set while none is held, which no calibrated dwell
meets (R40, assumption 21). -/
def qualityFlags (site : Option Site) (n : Snapshot) (ls rs : List Int) (loads : Loads) : FlagSet :=
  match site with
  | none => 0
  | some st =>
    flagWhen (impactCheck st.impact ls.length ls.sum (maxOfInt ls) n.zL ||
        impactCheck st.impact rs.length rs.sum (maxOfInt rs) n.zR) .impact |||
      flagWhen (imbalanceCheck st.imbalance loads) .imbalance ||| flagWhen (overloadCheck st.overload loads) .overload

/-- Loads and the flags that come from the plateau (R43 to R50): loads absent and NO_SAMPLES for an empty plateau or
an uncalibrated dwell. -/
def weigh (site : Option Site) (n : Snapshot) (ps : List Pair) : Option Loads × FlagSet :=
  match n.weighing with
  | none => (none, flagWhen true .noSamples)
  | some w =>
    if ps.isEmpty then (none, flagWhen true .noSamples)
    else
      let ls := ps.map (fun p => p.left.toInt)
      let rs := ps.map (fun p => p.right.toInt)
      let wl := rawLoad w.rounding w.spanL n.zL ps.length ls.sum
      let wr := rawLoad w.rounding w.spanR n.zR ps.length rs.sum
      let loads : Loads := ⟨clampLoad wl, clampLoad wr⟩
      (some loads,
        flagWhen (ps.length ≤ 7) .short ||| flagWhen (ps.any Pair.clipped) .overrange |||
          flagWhen (negativeLoad wl || negativeLoad wr) .negative |||
          flagWhen (saturatedLoad wl || saturatedLoad wr) .saturated |||
          flagWhen (ps.any (fun p => !p.settled)) .unsettled ||| qualityFlags site n ls rs loads)

/-- The partial of a closed dwell (R54), `fault` saying that the pending set is not empty (R52). -/
def closedPartial (site : Option Site) (n : Snapshot) (buffer : List Pair) (dir : Direction) (d : Nat)
    (speed : Nat) (spacing : Option Nat) (fault : Bool) : Partial :=
  let w := weigh site n (plateau n.entry d buffer)
  { ordinal := n.ordinal, dir := dir, loads := w.1, speed := some speed, spacing := spacing,
    flags := w.2 ||| flagWhen (Config.maxBuffer < d) .incomplete ||| zeroFlags n.zstateL n.zstateR |||
      flagWhen fault .stationFault }

/-- The partial of a broken dwell (R53). -/
def brokenPartial (n : Snapshot) (dir : Direction) (fault : Bool) : Partial :=
  { ordinal := n.ordinal, dir := dir, loads := none, speed := none, spacing := none,
    flags := flagWhen true .noSamples ||| flagWhen true .brokenDwell ||| zeroFlags n.zstateL n.zstateR |||
      flagWhen fault .stationFault }

/-- A produced partial empties the pending station-fault set (R52), sets the latest partial speed (R55) and ends the
dwell's buffer and snapshot (R41). -/
def endPassage (q : Partial) (s : State) : State :=
  { s with pass := { s.pass with faults := noFaults, latestSpeed := q.speed, buffer := [], snapshot := none } }

/-- A partial is handed on (R56): at CONTRIBUTING standing its AXLE frame is queued (R57) and it is stored as the own
contribution, in this order (assumption 9); otherwise it goes nowhere. -/
def handOn (q : Partial) (s : State) : State :=
  if s.train.state == .running && s.train.standing == .contributing then
    takeContribution s.own q (offer .axle (seqOf q.ordinal) (axlePayload q) s).1
  else s

end Sys2Proof.Machine
end

