-- ==== Sys2Proof/Machine/Wheel.lean ====
section
/-! DEFINITION. The Wheel Timer (chapter 2): debounce, entry and exit, speed and spacing, broken dwells, the ceiling
entry and reversals. -/

namespace Sys2Proof.Machine

/-- The hold of a detector (R22). -/
def WheelTimer.hold (w : WheelTimer) (d : Detector) : Option Tick :=
  match d with
  | .a => w.holdA
  | .b => w.holdB

/-- The hold of a detector set or cleared. -/
def WheelTimer.setHold (w : WheelTimer) (d : Detector) (h : Option Tick) : WheelTimer :=
  match d with
  | .a => { w with holdA := h }
  | .b => { w with holdB := h }

/-- The hold has ended: the tick count is later than its last tick (R22). -/
def holdEnded (now : Tick) (h : Option Tick) : Bool :=
  match h with
  | none => true
  | some e => tickLater now e

/-- The debounce time in force (R22). -/
def State.debounce (s : State) : Nat := s.siteValue Config.defaultDebounce Site.debounce

/-- A hold that has ended is cleared (R22). -/
def debounceHoldEnd (d : Detector) (s : State) : State :=
  if holdEnded s.tick (s.wheel.hold d) then { s with wheel := s.wheel.setHold d none } else s

/-- DEBOUNCE_HOLD_END (R22). -/
def execDebounceHoldEnd (d : Detector) (s : State) : Host.Outcome State Fault Refusal :=
  inService (debounceHoldEnd d) s

/-- The speed of a closed dwell (R32). -/
def dwellSpeed (len d : Nat) : Nat :=
  if d = 0 then Config.max16 else min (len * 8192 / (10 * d)) Config.max16

/-- An interval held at 2,147,483,647, `aged` saying that it has reached that value (R31, R33). -/
def heldInterval (aged : Bool) (ticks : Nat) : Nat := if aged then Config.maxInterval else min ticks Config.maxInterval

/-- The length of a dwell that exits now (R31). -/
def dwellLength (now : Tick) (d : Dwell) : Nat := heldInterval d.aged (ticksSince now d.entry)

/-- The spacing of a closing axle (R33). -/
def axleSpacing (d : Dwell) (speed : Nat) (prev : Option PrevAxle) : Option Nat :=
  match prev with
  | none => none
  | some p =>
    match p.speed with
    | none => none
    | some v =>
      some (min (heldInterval d.prevAged (ticksSince d.entry p.entry) * ((speed + v) / 2) / 8192) Config.max16)

/-- The Wheel Timer takes an event as entry (true) or exit (R24). -/
def isEntry (dir : Direction) (d : Detector) : Bool :=
  match dir, d with
  | .up, .a => true
  | .up, .b => false
  | .down, .a => false
  | .down, .b => true

/-- A broken dwell (R29): its partial is produced and handed on, and the previous-axle record takes its entry tick
with an absent speed. -/
def breakDwell (d : Dwell) (n : Snapshot) (s : State) : State :=
  let q := brokenPartial n s.train.dir (!s.pass.faults.isEmpty)
  let s := { s with wheel := { s.wheel with dwell := none, prev := some ⟨d.entry, none, d.aged⟩ } }
  handOn q (endPassage q s)

/-- A dwell opens at this event (R25): counter, dwell, snapshot; then the hole test, since the own counter has
changed (R101). -/
def openDwell (s : State) : State :=
  let n := s.wheel.counter + 1
  let d : Dwell :=
    { ordinal := n, entry := s.tick, aged := false,
      prevAged := match s.wheel.prev with
        | none => false
        | some p => p.aged }
  handChain (openPassage n { s with wheel := { s.wheel with counter := n, dwell := some d } })

/-- The open dwell, if any, is broken by a further entry (R29). -/
def endOpenDwell (s : State) : State :=
  match s.wheel.dwell, s.pass.snapshot with
  | some d, some n => breakDwell d n s
  | _, _ => s

/-- An entry event (R25, R26, R29): at the counter's ceiling the train is abandoned at ordinal 65,535, otherwise an
open dwell is broken and the next one opens. -/
def takeEntry (s : State) : State :=
  if Config.max16 ≤ s.wheel.counter then abandonAnnounced Config.max16 s else openDwell (endOpenDwell s)

/-- The open dwell closes (R27): the partial is produced and handed on, the previous-axle record replaced. -/
def closeDwell (d : Dwell) (n : Snapshot) (s : State) : State :=
  let len := dwellLength s.tick d
  let v := dwellSpeed s.conf.straps.length len
  let q := closedPartial s.conf.site n s.pass.buffer s.train.dir len v (axleSpacing d v s.wheel.prev)
    (!s.pass.faults.isEmpty)
  let s := { s with wheel := { s.wheel with dwell := none, prev := some ⟨d.entry, some v, d.aged⟩ } }
  handOn q (endPassage q s)

/-- An exit event: the open dwell closes (R27); with none open it is ignored (R28). -/
def takeExit (s : State) : State :=
  match s.wheel.dwell, s.pass.snapshot with
  | some d, some n => closeDwell d n s
  | _, _ => s

/-- The Wheel Timer takes an accepted event (R23, R24, R35): in RUNNING only. -/
def wheelTakes (d : Detector) (dir : Direction) (s : State) : State :=
  if s.holdsTrains && s.train.state == .running then
    if dir = s.train.dir then
      if isEntry dir d then takeEntry s else takeExit s
    else abandonAnnounced s.reversalOrdinal s
  else s

/-- An event is accepted (R22, R23): a new hold is set, the detector wake flag is set, then the Train Sequencer and
the Wheel Timer take it. -/
def acceptDetector (d : Detector) (dir : Direction) (s : State) : State :=
  let s := { s with wheel := s.wheel.setHold d (some (tickAfter s.tick (s.debounce - 1))),
                    rc := { s.rc with detectorWake := true } }
  wheelTakes d dir (trainTakesDetector dir s)

/-- A report of a detector: accepted outside its hold, ignored inside it (R22). -/
def detectorEvent (d : Detector) (dir : Direction) (s : State) : State :=
  if holdEnded s.tick (s.wheel.hold d) then acceptDetector d dir s else s

/-- DETECTOR_EVENT (R22). -/
def execDetectorEvent (d : Detector) (dir : Direction) (s : State) : Host.Outcome State Fault Refusal :=
  inService (detectorEvent d dir) s

end Sys2Proof.Machine
end

