-- ==== Sys2Proof/Machine/Clock.lean ====
section
/-! DEFINITION. What the station does when no command waits (assumption 2): its own events that are due are put in
the queue; when none is due the tick count advances. -/

namespace Sys2Proof.Machine

/-- An interval that has reached 2,147,483,647 ticks stays so (R31, R33). -/
def agedAt (now since : Tick) (aged : Bool) : Bool := aged || Config.maxInterval ≤ ticksSince now since

/-- The Wheel Timer's ages at a new tick (R31, R33). -/
def ageWheel (now : Tick) (w : WheelTimer) : WheelTimer :=
  { w with dwell := w.dwell.map (fun d => { d with aged := agedAt now d.entry d.aged }),
           prev := w.prev.map (fun p => { p with aged := agedAt now p.entry p.aged }) }

/-- The Front End at a new tick (R2, R4): the settling count falls by one, the rate set before is in force, pairs
carry a true settled mark once settling has completed. -/
def tickFrontEnd (rate : Rate) (fe : FrontEnd) : FrontEnd :=
  { fe with settleCount := if fe.settling then fe.settleCount - 1 else fe.settleCount,
            settledMark := fe.powered && !fe.settling, pairRate := rate, pairDone := false }

/-- The tick count advances by one (R1). -/
def advanceTick (s : State) : State :=
  let now := s.tick + 1
  { s with tick := now, fe := tickFrontEnd s.rc.rate s.fe, wheel := ageWheel now s.wheel }

/-- A command when its condition holds. -/
def whenDue (b : Bool) (i : Instr) : List Instr := if b then [i] else []

/-- The hold of a detector is set and has ended (R22). -/
def holdDue (now : Tick) (h : Option Tick) : Bool := h.isSome && holdEnded now h

/-- The slot's deadline is due (R98). -/
def slotDue (now : Tick) (sl : Slot) : Bool :=
  match sl with
  | .opened _ d => tickReached now d
  | .decided _ _ => false
  | .free => false

/-- The station's own events that are due at this tick, in a fixed order (assumption 2). -/
def State.dueEvents (s : State) : List Instr :=
  if s.strapFault then []
  else
    whenDue s.rc.detectorWake (.wakeEvent .detector) ++ whenDue s.rc.linkWake (.wakeEvent .link) ++
    whenDue (s.fe.settling && s.fe.settleCount == 0) .settlingComplete ++
    whenDue (s.rc.rate == .quiet && timerDue s.tick s.rc.quietTimer) .quietTimerExpiry ++
    whenDue (s.rc.rate == .quiet && timerDue s.tick s.rc.dormantEntry) .dormantEntryComplete ++
    whenDue (s.rc.rate == .dormant && timerDue s.tick s.rc.refreshTimer) .refreshTimerExpiry ++
    whenDue (holdDue s.tick s.wheel.holdA) (.debounceHoldEnd .a) ++
    whenDue (holdDue s.tick s.wheel.holdB) (.debounceHoldEnd .b) ++
    (List.finRange 16).flatMap (fun i => whenDue (slotDue s.tick s.table.slots[i]) (.deadlineExpiry i)) ++
    whenDue (s.trainHeld && timerDue s.tick s.train.closeTimer) .closeTimerExpiry

/-- A step with no command waiting (assumption 2). -/
def idleStep (s : State) : State :=
  match s.dueEvents with
  | [] => advanceTick s
  | c :: cs => { s with pending := c :: cs }

end Sys2Proof.Machine
end

