-- ==== Sys2Proof/Machine/Link.lean ====
section
/-! DEFINITION. Sending a frame (section 4.3): attempts, arbitration, sender errors, outcomes; and a frame that breaks
in reception (R68). A link event that cannot occur in the link state it finds has no effect (assumption 3). -/

namespace Sys2Proof.Machine

/-- Recessive bit times counted, up to 11, above which the count is not told apart (R64, assumption 7). -/
def countRecessive (before more : Nat) : Nat := min (before + more) Config.idleBits

/-- An attempt starts with frame `f` (R64): CONTENDING, `f` the frame in attempt and the counted frame, the count
kept only for the frame already counted (R67). -/
def startAttempt (f : QFrame) (l : LinkControl) : LinkControl :=
  { l with state := .contending, recessive := 0, attempt := some f.id, cancelled := false, counted := some f.id,
           attempts := if l.counted = some f.id then l.attempts else 0 }

/-- In IDLE, after `quiet` further recessive bit times: with 11 counted and a frame queued an attempt starts with the
head of the queue (R64). -/
def attemptStart (quiet : Nat) (s : State) : State :=
  if s.link.state = .idle then
    let n := countRecessive s.link.recessive quiet
    let l := { s.link with recessive := n }
    match headFrame s.link.queue with
    | none => { s with link := l }
    | some f => if Config.idleBits ≤ n then { s with link := startAttempt f l } else { s with link := l }
  else s

/-- ATTEMPT_START (R64). -/
def execAttemptStart (quiet : Nat) (s : State) : Host.Outcome State Fault Refusal := inService (attemptStart quiet) s

/-- In IDLE, after `quiet` further recessive bit times, a dominant bit the station did not drive: a start mark once
11 are counted, else only the end of the run (R64). -/
def otherPartyStartMark (quiet : Nat) (s : State) : State :=
  if s.link.state = .idle then
    if Config.idleBits ≤ countRecessive s.link.recessive quiet then
      { s with link := { s.link with state := .receiving, recessive := 0 } }
    else { s with link := { s.link with recessive := 0 } }
  else s

/-- OTHER_PARTY_START_MARK (R64). -/
def execOtherPartyStartMark (quiet : Nat) (s : State) : Host.Outcome State Fault Refusal :=
  inService (otherPartyStartMark quiet) s

/-- The label is sent unbeaten (R65). -/
def labelSentUnbeaten (s : State) : State :=
  if s.link.state = .contending then { s with link := { s.link with state := .sending } } else s

/-- LABEL_SENT_UNBEATEN (R65). -/
def execLabelSentUnbeaten (s : State) : Host.Outcome State Fault Refusal := inService labelSentUnbeaten s

/-- The frame in attempt. -/
def LinkControl.inAttempt (l : LinkControl) : Option QFrame :=
  match l.attempt with
  | none => none
  | some id => l.queue.find? (fun f => f.id == id)

/-- The attempt ends in link state `st` with `recessive` recessive bit times counted. -/
def endAttempt (st : LinkState) (recessive : Nat) (l : LinkControl) : LinkControl :=
  { l with state := st, recessive := recessive, attempt := none, cancelled := false }

/-- A carried cancellation is carried out when the attempt ends without completing (R75). -/
def dropCancelled (before : LinkControl) (l : LinkControl) : LinkControl :=
  match before.attempt with
  | none => l
  | some id => if before.cancelled then removeFrame id l else l

/-- Arbitration is lost (R65): RECEIVING, the frame stays queued without penalty unless its cancellation is carried
(R75). -/
def arbitrationLost (s : State) : State :=
  if s.link.state = .contending then
    { s with link := dropCancelled s.link (endAttempt .receiving 0 s.link) }
  else s

/-- ARBITRATION_LOST (R65). -/
def execArbitrationLost (s : State) : Host.Outcome State Fault Refusal := inService arbitrationLost s

/-- An eighth failed attempt discards the frame (R67): removed, its owner told DROPPED, LINK_FAILURE set. -/
def discardFrame (f : QFrame) (s : State) : State :=
  setFault .linkFailure (notify f .dropped
    { s with link := { removeFrame f.id s.link with counted := none, attempts := 0 } })

/-- A failed attempt of frame `f` is counted (R66, R67). -/
def failAttempt (f : QFrame) (s : State) : State :=
  if s.link.attempts + 1 < Config.maxAttempts then
    { s with link := { s.link with attempts := s.link.attempts + 1 } }
  else discardFrame f s

/-- A sender error (R66): IDLE, the attempt failed; a frame whose cancellation is carried is removed and the attempt
not counted (R75). -/
def senderError (run : Nat) (s : State) : State :=
  if s.link.state = .contending ∨ s.link.state = .sending then
    let l := endAttempt .idle (countRecessive 0 run) s.link
    if s.link.cancelled then { s with link := dropCancelled s.link l }
    else
      match s.link.inAttempt with
      | none => { s with link := l }
      | some f => failAttempt f { s with link := l }
  else s

/-- SENDER_ERROR (R66). -/
def execSenderError (run : Nat) (s : State) : Host.Outcome State Fault Refusal := inService (senderError run) s

/-- The frame in attempt has crossed the link (R69): removed, its owner told SENT, the count set to 0. -/
def sentFrame (f : QFrame) (s : State) : State :=
  notify f .sent { s with link := { removeFrame f.id s.link with counted := none, attempts := 0 } }

/-- The attempt completes (R69): IDLE, the end mark the last dominant bit. -/
def attemptComplete (s : State) : State :=
  if s.link.state = .sending then
    let t := { s with link := endAttempt .idle 0 s.link }
    match s.link.inAttempt with
    | none => t
    | some f => sentFrame f t
  else s

/-- ATTEMPT_COMPLETE (R69). -/
def execAttemptComplete (s : State) : Host.Outcome State Fault Refusal := inService attemptComplete s

/-- A frame breaks in reception (R68): back to IDLE, `run` recessive bit times counted, nothing else. The causes do
not differ in effect. -/
def frameBroken (_cause : BreakCause) (run : Nat) (s : State) : State :=
  if s.link.state = .receiving then
    { s with link := { s.link with state := .idle, recessive := countRecessive 0 run } }
  else s

/-- FRAME_BROKEN (R68). -/
def execFrameBroken (cause : BreakCause) (run : Nat) (s : State) : Host.Outcome State Fault Refusal :=
  inService (frameBroken cause run) s

end Sys2Proof.Machine
end

