-- ==== Sys2Proof/Machine/Setup.lean ====
section
/-! DEFINITION. Configuration (chapter 11): power-on reset, acceptance of CALIBRATE and SITE, RESTART. -/

namespace Sys2Proof.Machine

/-! ### Power-on reset -/

/-- The Link Controller with an empty queue (R77). -/
def emptyLink : LinkControl :=
  { state := .idle, recessive := 0, queue := [], attempt := none, cancelled := false, counted := none, attempts := 0,
    nextId := 0 }

/-- Every block as its chapter says at power-on, the straps sampled, no frame queued yet (R167). The commands that
wait are the sender's and stay (assumption 25). -/
def powerOnBlocks (st : Straps) (s : State) : State :=
  { State.reset with pending := s.pending, link := emptyLink, conf := { State.reset.conf with straps := st } }

/-- A STRAP_FAULT station: DORMANT and unpowered until the next power-on reset (R5, R167). -/
def strapFaulted (s : State) : State :=
  let s := powerDown s
  { s with rc := { s.rc with rate := .dormant } }

/-- Power-on reset (R167): STRAP_FAULT when POS is N or more, otherwise BLANK with the power-on PRESENCE queued. -/
def powerOn (st : Straps) (s : State) : State :=
  let t := powerOnBlocks st s
  if t.strapFault then strapFaulted t else offerPresence t

/-- POWER_ON_RESET (R167). -/
def execPowerOnReset (pos cnt : BitVec 3) (sec : BitVec 4) (s : State) : Host.Outcome State Fault Refusal :=
  .next (powerOn ⟨pos, cnt, sec⟩ s)

/-! ### CALIBRATE and SITE -/

/-- A refused settings frame changes nothing but the last refusal status, and queues a PRESENCE (R169, R171). -/
def refuseSettings (r : LastRefusal) (s : State) : State :=
  offerPresence { s with conf := { s.conf with lastRefusal := r } }

/-- The zero tracker at the acceptance of a CALIBRATE (R12). -/
def calibratedZero (c : Calibrate) (z : ZeroTracker) : ZeroTracker :=
  { left := zeroedChannel (256 * c.zeroL), right := zeroedChannel (256 * c.zeroR),
    capturePending := c.capture || z.capturePending, count := 0, sumL := 0, sumR := 0 }

/-- A CALIBRATE is accepted (R170). -/
def acceptCalibrate (c : Calibrate) (s : State) : State :=
  offerPresence { s with zero := calibratedZero c s.zero,
                         conf := { s.conf with cal := some c, lastRefusal := .none } }

/-- A CALIBRATE is offered for acceptance (R169). -/
def offerCalibrate (payload : List Byte) (s : State) : State :=
  match readCalibrate payload with
  | none => refuseSettings .calRefused s
  | some c => acceptCalibrate c s

/-- Configuration takes a CALIBRATE (R169): for the own position in BLANK or LISTENING, otherwise ignored. -/
def takeCalibrate (f : RxFrame) (s : State) : State :=
  if f.position = s.own && s.conf.cal.isNone then offerCalibrate f.payload s else s

/-- The quiet timer takes its new length when SITE is accepted in QUIET with no dormant entry in flight (R11). -/
def resizeQuiet (s : State) : State :=
  if s.rc.rate == .quiet && s.rc.dormantEntry.isNone then startQuietTimer s else s

/-- A SITE is accepted (R171). -/
def acceptSite (st : Site) (s : State) : State :=
  offerPresence (resizeQuiet { s with conf := { s.conf with site := some st, lastRefusal := .none } })

/-- Configuration takes a SITE (R171): offered in BLANK and CAL_HELD, otherwise ignored. -/
def takeSite (f : RxFrame) (s : State) : State :=
  if s.conf.site.isNone then
    match readSite s.conf.straps.count s.conf.straps.length f.payload with
    | none => refuseSettings .siteRefused s
    | some st => acceptSite st s
  else s

/-! ### RESTART -/

/-- The rate and the Front End at a RESTART (R19). -/
def restartRate (s : State) : State :=
  let s := wakeFrontEnd s
  startQuietTimer { s with rc := { rate := .quiet, quietTimer := none, refreshTimer := none, dormantEntry := none,
                                   detectorWake := false, linkWake := false } }

/-- The Zero Tracker at a RESTART (R20): both zeros keep their values, a capture starts again from count 0; releasing
configuration clears the mark and both zero states become OK. -/
def restartZero (keep : Bool) (z : ZeroTracker) : ZeroTracker :=
  let z := { z with count := 0, sumL := 0, sumR := 0 }
  if keep then z
  else { z with capturePending := false, left := { z.left with zstate := .ok },
                right := { z.right with zstate := .ok } }

/-- Configuration at a RESTART (R174): settings kept or released, the last refusal status NONE. -/
def restartConf (keep : Bool) (c : Configuration) : Configuration :=
  { c with cal := if keep then c.cal else none, site := if keep then c.site else none, lastRefusal := .none }

/-- The Passage Integrator at a RESTART (R20, R41): the latest pair stands. -/
def restartPass (p : PassageIntegrator) : PassageIntegrator :=
  { p with buffer := [], snapshot := none, latestSpeed := none, faults := noFaults }

/-- The Wheel Timer at a RESTART (R36, R37): the holds stand. -/
def restartWheel (w : WheelTimer) : WheelTimer := { w with dwell := none, counter := 0, prev := none }

/-- The Train Sequencer at a RESTART (R155): the direction and the train number stand. -/
def restartTrain (t : TrainSequencer) : TrainSequencer :=
  { t with state := .noTrain, standing := .notReady, slips := 0, closeTimer := none, ownClose := none,
           peerClose := none, openFrame := none, closeFrame := none }

/-- The transmit queue flushed without notices (R77). -/
def flushQueue (l : LinkControl) : LinkControl :=
  { l with queue := [], attempt := none, cancelled := false, counted := none, attempts := 0 }

/-- A RESTART is taken whole (R174); its PRESENCE stands first in the emptied queue. -/
def takeRestart (keep : Bool) (s : State) : State :=
  let s := { s with conf := restartConf keep s.conf, zero := restartZero keep s.zero, pass := restartPass s.pass,
                    wheel := restartWheel s.wheel, train := restartTrain s.train, link := flushQueue s.link,
                    roster := State.reset.roster, table := State.reset.table, asm := State.reset.asm, pub := [] }
  offerPresence (restartRate s)

/-- Configuration takes a RESTART addressed to the station (R72, R174). -/
def takeRestartFrame (f : RxFrame) (s : State) : State :=
  if f.position = s.own || restartAll f.payload then takeRestart (restartKeeps f.payload) s else s

end Sys2Proof.Machine
end

