-- ==== Sys2Proof/WellFormed.lean ====
section
/-! DEFINITION. Which commands an event of the spec can be. `exec` gives every command a next state, well formed or
not; a well-formed command is one that the pair or the pins can deliver. -/

namespace Sys2Proof

/-- The subtype byte of a TRAIN payload (R177). -/
def RxFrame.subtype (f : RxFrame) : Nat := (f.payload.getD 0 0).toNat

/-- A frame whose length field is above 24 breaks in reception and never reaches its end mark (R68). -/
def RxFrame.wf (f : RxFrame) : Bool := f.payload.length ≤ Config.maxPayload

/-- The recessive run that ends at a bit which breaks a frame (R68): eight recessive bits are followed by a fill bit,
so the ninth breaks the frame, and no run is longer. -/
def BreakCause.runOk (c : BreakCause) (run : Nat) : Bool :=
  match c with
  | .overlongLength => run ≤ Config.fillRun
  | .ninthRecessive => run == Config.fillRun + 1
  | .missingFillBit => run == Config.fillRun + 1
  | .missingEndMark => 1 ≤ run && run ≤ Config.fillRun

/-- The recessive run that ends at the bit of a sender error (R66): 0 where that bit is read dominant, up to nine within
the frame, and at a start mark read recessive that bit and the recessive bit times before it, 11 or more (R64). -/
def senderRunOk (run : Nat) : Bool := run ≤ Config.fillRun + 1 || Config.idleBits < run

/-- Well-formed commands. -/
def Instr.wf (i : Instr) : Bool :=
  match i with
  | .powerOnReset _ _ _ => true
  | .samplePair _ _ => true
  | .zeroCaptureComplete _ _ => true
  | .settlingComplete => true
  | .quietTimerExpiry => true
  | .dormantEntryComplete => true
  | .refreshTimerExpiry => true
  | .wakeEvent _ => true
  | .detectorEvent _ _ => true
  | .debounceHoldEnd _ => true
  | .closeTimerExpiry => true
  | .deadlineExpiry _ => true
  | .attemptStart _ => true
  | .arbitrationLost => true
  | .senderError run => senderRunOk run
  | .attemptComplete => true
  | .frameBroken cause run => cause.runOk run
  | .restartFrame f => f.wf
  | .calibrateFrame f => f.wf
  | .siteFrame f => f.wf
  | .trainOpenFrame f => f.wf && f.subtype != 2 && f.subtype != 3
  | .trainReversalFrame f => f.wf && f.subtype == 2
  | .trainCloseFrame f => f.wf && f.subtype == 3
  | .axleFrame f => f.wf
  | .vehicleFrame f => f.wf
  | .dissentFrame f => f.wf
  | .presenceFrame f => f.wf
  | .otherPartyStartMark _ => true
  | .labelSentUnbeaten => true

end Sys2Proof
end

