-- ==== Sys2Proof/Machine/Wire.lean ====
section
/-! DEFINITION. The form of a frame on the pair (R61, R62, R63, R68): label, length, payload, check, fill bits, and
how a receiver takes the bits. A bit is `true` for recessive (1) and `false` for dominant (0) (R60). -/

namespace Sys2Proof.Machine

/-- The `w` low bits of `n`, most significant first. -/
def bitsOf : Nat → Nat → List Bool
  | 0, _ => []
  | w + 1, n => (n / 2 ^ w % 2 == 1) :: bitsOf w n

/-- The number a list of bits spells, most significant first. -/
def numberOf (l : List Bool) : Nat := l.foldl (fun n b => n * 2 + b.toNat) 0

/-- The label as a number: kind x 512 + position x 64 + sequence (R62, R175). -/
def labelOf (k : Kind) (p : Pos) (seq : BitVec 6) : Nat := kindValue k * 512 + p.val * 64 + seq.toNat

/-- The label, length and payload bits, in the order they are sent (R61). -/
def bodyBits (k : Kind) (p : Pos) (seq : BitVec 6) (payload : List Byte) : List Bool :=
  bitsOf 12 (labelOf k p seq) ++ bitsOf 5 payload.length ++ payload.flatMap (fun b => bitsOf 8 b.toNat)

/-- One bit of the string into the check register (R63). -/
def checkBit (reg : BitVec 16) (b : Bool) : BitVec 16 :=
  let shifted := reg <<< 1
  if b != reg.getLsbD 15 then shifted ^^^ Config.checkPoly else shifted

/-- The frame check of a string of bits (R63). -/
def checkOfBits (l : List Bool) : BitVec 16 := l.foldl checkBit Config.checkStart

/-- The check of a frame's label, length and payload (R63, R70). -/
def frameCheck (k : Kind) (p : Pos) (seq : BitVec 6) (payload : List Byte) : BitVec 16 :=
  checkOfBits (bodyBits k p seq payload)

/-- The fill bits of a sender: one dominant bit after every run of eight recessive bits (R61). `run` recessive bits
have just been sent. -/
def fill : Nat → List Bool → List Bool
  | _, [] => []
  | run, true :: bs =>
    if run + 1 == Config.fillRun then true :: false :: fill 0 bs else true :: fill (run + 1) bs
  | _, false :: bs => false :: fill 0 bs

/-- A whole frame as its sender drives it: start mark, the filled bits from label to check, end mark (R61). -/
def wireBits (k : Kind) (p : Pos) (seq : BitVec 6) (payload : List Byte) : List Bool :=
  [false] ++
    fill 0 (bodyBits k p seq payload ++ bitsOf 16 (frameCheck k p seq payload).toNat) ++ [false]

/-- What a receiver has after some bits (R68). -/
inductive Take (α : Type) where
  /-- The bits asked for, the recessive run at their end, and the bits that follow. -/
  | got (x : α) (run : Nat) (rest : List Bool)
  /-- The frame is broken by a recessive bit where a fill bit is due. -/
  | broken (cause : BreakCause) (run : Nat)
  /-- The bits end before the part is complete. -/
  | more
  deriving DecidableEq, Repr

/-- Takes one bit that is no fill bit: after a run of eight recessive bits the next bit is a fill bit, removed when
dominant, and the ninth of a run that breaks the frame when recessive (R68). -/
def takeBit (run : Nat) (bits : List Bool) : Take Bool :=
  match bits with
  | [] => .more
  | b :: rest =>
    if run == Config.fillRun then
      if b then .broken .missingFillBit (run + 1)
      else
        match rest with
        | [] => .more
        | c :: rest' => .got c (if c then 1 else 0) rest'
    else .got b (if b then run + 1 else 0) rest

/-- Takes `n` bits, fill bits removed (R68). -/
def takeBits : Nat → Nat → List Bool → Take (List Bool)
  | 0, run, bits => .got [] run bits
  | n + 1, run, bits =>
    match takeBit run bits with
    | .got b run' rest =>
      match takeBits n run' rest with
      | .got bs run'' rest' => .got (b :: bs) run'' rest'
      | .broken c r => .broken c r
      | .more => .more
    | .broken c r => .broken c r
    | .more => .more

/-- The bytes a list of bits spells, eight bits each (R61); `n` bytes. -/
def bytesOf : Nat → List Bool → List Byte
  | 0, _ => []
  | n + 1, bits => BitVec.ofNat 8 (numberOf (bits.take 8)) :: bytesOf n (bits.drop 8)

/-- The kind a value names (R175). -/
def kindOf (n : Nat) : Kind :=
  match n with
  | 0 => .restart
  | 1 => .calibrate
  | 2 => .site
  | 3 => .train
  | 4 => .axle
  | 5 => .vehicle
  | 6 => .dissent
  | _ => .presence

/-- The command that a received frame is: the row of its kind, and for TRAIN of its subtype (R175, R177). -/
def frameCommand (k : Kind) (f : RxFrame) : Instr :=
  match k with
  | .restart => .restartFrame f
  | .calibrate => .calibrateFrame f
  | .site => .siteFrame f
  | .train =>
    if f.subtype == trainReversalSubtype then .trainReversalFrame f
    else if f.subtype == trainCloseSubtype then .trainCloseFrame f
    else .trainOpenFrame f
  | .axle => .axleFrame f
  | .vehicle => .vehicleFrame f
  | .dissent => .dissentFrame f
  | .presence => .presenceFrame f

/-- The frame that a label number, payload bytes and a check make (R62). -/
def frameOf (label : Nat) (payload : List Byte) (check : Nat) : RxFrame :=
  { position := Fin.ofNat 8 (label / 64), sequence := BitVec.ofNat 6 label, payload := payload,
    check := BitVec.ofNat 16 check }

/-- The command that the bits after a start mark make (R68): a frame received at its end mark, or a frame broken;
none while the frame is still in progress. -/
def receiveBits (bits : List Bool) : Option Instr :=
  match takeBits 17 0 bits with
  | .more => none
  | .broken c r => some (.frameBroken c r)
  | .got head run rest =>
    let label := numberOf (head.take 12)
    let n := numberOf (head.drop 12)
    if Config.maxPayload < n then some (.frameBroken .overlongLength run)
    else
      match takeBits (8 * n + 16) run rest with
      | .more => none
      | .broken c r => some (.frameBroken c r)
      | .got body run' rest' =>
        match takeBit run' rest' with
        | .more => none
        | .broken c r => some (.frameBroken c r)
        | .got true r _ => some (.frameBroken .missingEndMark r)
        | .got false _ _ =>
          some (frameCommand (kindOf (label / 512))
            (frameOf label (bytesOf n body) (numberOf (body.drop (8 * n)))))

end Sys2Proof.Machine
end

