-- ==== Sys2Proof/Machine/Reception.lean ====
section
/-! DEFINITION. Receiving a frame (section 4.4): the receive checks and the delivery of each kind. -/

namespace Sys2Proof.Machine

/-- The first three receive checks (R70): the frame check, the length for the kind, the position of a station kind
below N. -/
def passesChecks (k : Kind) (f : RxFrame) (s : State) : Bool :=
  frameCheck k f.position f.sequence f.payload == f.check && f.payload.length == payloadLength k &&
    (!stationKind k || f.position.val < s.conf.straps.count)

/-- The receive checks of a frame (R70), the own-position check last (R71); a frame that passes sets the link wake
flag (R7) and is delivered (R72). -/
def checkFrame (k : Kind) (f : RxFrame) (deliver : State → State) (s : State) : State :=
  if passesChecks k f s then
    if stationKind k && f.position = s.own then setFault .positionClash s
    else deliver { s with rc := { s.rc with linkWake := true } }
  else s

/-- The station takes the bits of a frame: in RECEIVING alone (R68). -/
def State.listens (s : State) : Bool :=
  match s.link.state with
  | .idle => false
  | .receiving => true
  | .contending => false
  | .sending => false

/-- A frame's end mark is read in RECEIVING (R68): the station enters IDLE, the end mark the last dominant bit, and
passes the frame to the receive checks. A length above 24 has broken the frame before. A frame found in IDLE brings its
own start mark (assumption 6), taken with 11 recessive bit times counted (R64); before that its dominant bits only end
the run and it is not received. In CONTENDING and SENDING the station reads the pair for its own frame. -/
def receiveFrame (k : Kind) (f : RxFrame) (deliver : State → State) (s : State) : State :=
  let s := otherPartyStartMark 0 s
  if s.listens then
    let s := { s with link := { s.link with state := .idle, recessive := 0 } }
    if f.wf then checkFrame k f deliver s else s
  else s

/-- A station frame's delivery (R72): the Roster and the other blocks take it in the order the frame names (R83,
assumption 8). -/
def deliverStation (k : Kind) (f : RxFrame) (others : State → State) (s : State) : State :=
  if f.rosterLast then rosterTake k f (others s) else others (rosterTake k f s)

/-- The Train Sequencer takes a TRAIN frame of one subtype; of another it takes nothing (R179). -/
def takeTrainFrame (subtype : Nat) (f : RxFrame) (take : TrainFrame → State → State) (s : State) : State :=
  let t := readTrain f.position f.payload
  if t.subtype = subtype then take t s else s

/-- A peer's AXLE frame (R72): the Train Sequencer first, then the Consensus Table in the state it leaves. -/
def takeAxleFrame (f : RxFrame) (s : State) : State :=
  let q := readAxle f.payload
  takeContribution f.position q (trainTakesAxle q s)

/-- A peer's VEHICLE frame at the Publication Table (R72). -/
def takeVehicleFrame (f : RxFrame) (s : State) : State :=
  if s.holdsTrains then takePeerRecord (readVehicle f.position f.payload) s else s

/-- A RESTART frame. -/
def restartFrame (f : RxFrame) (s : State) : State := receiveFrame .restart f (takeRestartFrame f) s

/-- RESTART_FRAME (R174). -/
def execRestartFrame (f : RxFrame) (s : State) : Host.Outcome State Fault Refusal := inService (restartFrame f) s

/-- A CALIBRATE frame. -/
def calibrateFrame (f : RxFrame) (s : State) : State := receiveFrame .calibrate f (takeCalibrate f) s

/-- CALIBRATE_FRAME (R169). -/
def execCalibrateFrame (f : RxFrame) (s : State) : Host.Outcome State Fault Refusal := inService (calibrateFrame f) s

/-- A SITE frame. -/
def siteFrame (f : RxFrame) (s : State) : State := receiveFrame .site f (takeSite f) s

/-- SITE_FRAME (R171). -/
def execSiteFrame (f : RxFrame) (s : State) : Host.Outcome State Fault Refusal := inService (siteFrame f) s

/-- A peer's TRAIN-OPEN. -/
def trainOpenFrame (f : RxFrame) (s : State) : State :=
  receiveFrame .train f (deliverStation .train f (takeTrainFrame trainOpenSubtype f takeTrainOpen)) s

/-- TRAIN_OPEN_FRAME (R158). -/
def execTrainOpenFrame (f : RxFrame) (s : State) : Host.Outcome State Fault Refusal := inService (trainOpenFrame f) s

/-- A peer's TRAIN-REVERSAL. -/
def trainReversalFrame (f : RxFrame) (s : State) : State :=
  receiveFrame .train f (deliverStation .train f (takeTrainFrame trainReversalSubtype f takeTrainReversal)) s

/-- TRAIN_REVERSAL_FRAME (R163). -/
def execTrainReversalFrame (f : RxFrame) (s : State) : Host.Outcome State Fault Refusal :=
  inService (trainReversalFrame f) s

/-- A peer's TRAIN-CLOSE. -/
def trainCloseFrame (f : RxFrame) (s : State) : State :=
  receiveFrame .train f (deliverStation .train f (takeTrainFrame trainCloseSubtype f takeTrainClose)) s

/-- TRAIN_CLOSE_FRAME (R162). -/
def execTrainCloseFrame (f : RxFrame) (s : State) : Host.Outcome State Fault Refusal :=
  inService (trainCloseFrame f) s

/-- A peer's AXLE frame. -/
def axleFrame (f : RxFrame) (s : State) : State :=
  receiveFrame .axle f (deliverStation .axle f (takeAxleFrame f)) s

/-- AXLE_FRAME (R159). -/
def execAxleFrame (f : RxFrame) (s : State) : Host.Outcome State Fault Refusal := inService (axleFrame f) s

/-- A peer's VEHICLE frame. -/
def vehicleFrame (f : RxFrame) (s : State) : State :=
  receiveFrame .vehicle f (deliverStation .vehicle f (takeVehicleFrame f)) s

/-- VEHICLE_FRAME (R148). -/
def execVehicleFrame (f : RxFrame) (s : State) : Host.Outcome State Fault Refusal := inService (vehicleFrame f) s

/-- A peer's DISSENT frame: the Roster alone takes it (R72, R148). -/
def dissentFrame (f : RxFrame) (s : State) : State := receiveFrame .dissent f (rosterTake .dissent f) s

/-- DISSENT_FRAME (R79). -/
def execDissentFrame (f : RxFrame) (s : State) : Host.Outcome State Fault Refusal := inService (dissentFrame f) s

/-- A peer's PRESENCE frame: the Roster alone takes it (R72). -/
def presenceFrame (f : RxFrame) (s : State) : State := receiveFrame .presence f (rosterTake .presence f) s

/-- PRESENCE_FRAME (R80). -/
def execPresenceFrame (f : RxFrame) (s : State) : Host.Outcome State Fault Refusal := inService (presenceFrame f) s

/-- The bits the station drives on the pair in the attempt in progress, from start mark to end mark (R60, R61). -/
def State.attemptBits (s : State) : List Bool :=
  match s.link.attempt with
  | none => []
  | some id =>
    match s.link.queue.find? (fun f => f.id == id) with
    | none => []
    | some f => wireBits f.kind s.own f.seq f.payload

end Sys2Proof.Machine
end

