-- ==== Sys2Proof/Machine/Dispatch.lean ====
section
/-! DEFINITION. The command's meaning: one arm per row of spec/opcode_table.json. -/

namespace Sys2Proof.Machine

def exec (i : Instr) (s : State) : Host.Outcome State Fault Refusal :=
  match i with
  | .powerOnReset pos cnt sec => Sys2Proof.Machine.execPowerOnReset pos cnt sec s
  | .samplePair left right => Sys2Proof.Machine.execSamplePair left right s
  | .zeroCaptureComplete left right => Sys2Proof.Machine.execZeroCaptureComplete left right s
  | .settlingComplete => Sys2Proof.Machine.execSettlingComplete s
  | .quietTimerExpiry => Sys2Proof.Machine.execQuietTimerExpiry s
  | .dormantEntryComplete => Sys2Proof.Machine.execDormantEntryComplete s
  | .refreshTimerExpiry => Sys2Proof.Machine.execRefreshTimerExpiry s
  | .wakeEvent source => Sys2Proof.Machine.execWakeEvent source s
  | .detectorEvent detector dir => Sys2Proof.Machine.execDetectorEvent detector dir s
  | .debounceHoldEnd detector => Sys2Proof.Machine.execDebounceHoldEnd detector s
  | .closeTimerExpiry => Sys2Proof.Machine.execCloseTimerExpiry s
  | .deadlineExpiry slot => Sys2Proof.Machine.execDeadlineExpiry slot s
  | .attemptStart quiet => Sys2Proof.Machine.execAttemptStart quiet s
  | .arbitrationLost => Sys2Proof.Machine.execArbitrationLost s
  | .senderError run => Sys2Proof.Machine.execSenderError run s
  | .attemptComplete => Sys2Proof.Machine.execAttemptComplete s
  | .frameBroken cause run => Sys2Proof.Machine.execFrameBroken cause run s
  | .restartFrame f => Sys2Proof.Machine.execRestartFrame f s
  | .calibrateFrame f => Sys2Proof.Machine.execCalibrateFrame f s
  | .siteFrame f => Sys2Proof.Machine.execSiteFrame f s
  | .trainOpenFrame f => Sys2Proof.Machine.execTrainOpenFrame f s
  | .trainReversalFrame f => Sys2Proof.Machine.execTrainReversalFrame f s
  | .trainCloseFrame f => Sys2Proof.Machine.execTrainCloseFrame f s
  | .axleFrame f => Sys2Proof.Machine.execAxleFrame f s
  | .vehicleFrame f => Sys2Proof.Machine.execVehicleFrame f s
  | .dissentFrame f => Sys2Proof.Machine.execDissentFrame f s
  | .presenceFrame f => Sys2Proof.Machine.execPresenceFrame f s
  | .otherPartyStartMark quiet => Sys2Proof.Machine.execOtherPartyStartMark quiet s
  | .labelSentUnbeaten => Sys2Proof.Machine.execLabelSentUnbeaten s

end Sys2Proof.Machine
end

