-- ==== Sys2Proof/Safety.lean ====
section
/-! DEFINITION. What every step keeps, block by block: the bounds and shapes that the spec's rules state of the
station's state between events. No step of this part stops (assumption 28), so a run is safe when these hold. -/

namespace Sys2Proof.Machine

/-- The transmit queue and the attempt (R57, R63, R64, R67, R73, R74, R75). -/
structure QueueInv (l : LinkControl) : Prop where
  /-- At most 8 frames (R74). -/
  bound : l.queue.length ≤ 8
  /-- Only station kinds (R62). -/
  kinds : ∀ f ∈ l.queue, 3 ≤ kindValue f.kind
  /-- Each kind with its own payload length (R63). -/
  lengths : ∀ f ∈ l.queue, f.payload.length = payloadLength f.kind
  /-- No two frames share an identity (assumption 19). -/
  distinct : (l.queue.map QFrame.id).Nodup
  /-- Identities are not used again (assumption 19). -/
  fresh : ∀ f ∈ l.queue, f.id < l.nextId
  /-- The frame in attempt is queued (R64, R74). -/
  attemptQueued : ∀ id, l.attempt = some id → id ∈ l.queue.map QFrame.id
  /-- An attempt is in progress exactly in CONTENDING and SENDING (R64). -/
  attemptState : l.attempt.isSome = true ↔ l.state = .contending ∨ l.state = .sending
  /-- A cancellation is carried only for a frame in attempt (R75). -/
  cancelCarried : l.cancelled = true → l.attempt.isSome = true
  /-- The counted frame is queued (R67, R74, R75). -/
  countedQueued : ∀ id, l.counted = some id → id ∈ l.queue.map QFrame.id
  /-- The frame in attempt is the counted frame (R67). -/
  attemptCounted : ∀ id, l.attempt = some id → l.counted = some id
  /-- The attempt count stands below 8 between events, and at 0 with no counted frame (R67). -/
  attempts : l.attempts < 8 ∧ (l.counted = none → l.attempts = 0)
  /-- The recessive count is held at 11 (assumption 7). -/
  recessive : l.recessive ≤ 11

/-- Rate state, Front End, timers and train state together (R4, R5, R6, R8, R9, R10, R160, R168). -/
structure RateInv (s : State) : Prop where
  /-- ACTIVE exactly while a train is held: never DORMANT in RUNNING or ABANDONED (R6). -/
  active : s.rc.rate = .active ↔ s.train.state ≠ .noTrain
  /-- No quiet timer, refresh timer or dormant entry in ACTIVE (R6). -/
  activeTimers : s.rc.rate = .active → s.rc.quietTimer = none ∧ s.rc.refreshTimer = none ∧ s.rc.dormantEntry = none
  /-- In QUIET no refresh timer runs, and no quiet timer beside a dormant entry (R9, R10). -/
  quietTimers : s.rc.rate = .quiet → s.rc.refreshTimer = none ∧
    (s.rc.dormantEntry.isSome = true → s.rc.quietTimer = none)
  /-- In DORMANT neither quiet timer nor dormant entry, and no settling (R4, R9). -/
  dormantTimers : s.rc.rate = .dormant → s.rc.quietTimer = none ∧ s.rc.dormantEntry = none ∧ s.fe.settling = false
  /-- The Front End is powered in ACTIVE and QUIET, unpowered in DORMANT (section 1.2). -/
  power : s.fe.powered = true ↔ s.rc.rate ≠ .dormant
  /-- The settling count is at most 2,048 (R4). -/
  settle : s.fe.settleCount ≤ 2048
  /-- A train is held only with a SITE (R168). -/
  site : s.train.state ≠ .noTrain → s.conf.site.isSome = true
  /-- Without a SITE no timer runs, and only STRAP_FAULT is DORMANT (R5, R8, R10). -/
  noSite : s.conf.site = none → s.rc.quietTimer = none ∧ s.rc.refreshTimer = none ∧ s.rc.dormantEntry = none ∧
    (s.rc.rate = .dormant → s.strapFault = true)
  /-- The close timer runs exactly while a train is held (R160). -/
  closeTimer : s.train.closeTimer.isSome = true ↔ s.train.state ≠ .noTrain

/-- A zero lies within 256 times the sample range (R12). -/
def inZeroRange (z : Int) : Prop := -2147483648 ≤ z ∧ z ≤ 2147483392

/-- The zeros and the capture sums (R12, R15). -/
structure ZeroInv (z : ZeroTracker) : Prop where
  left : inZeroRange z.left.z256 ∧ inZeroRange z.left.zcal256
  right : inZeroRange z.right.z256 ∧ inZeroRange z.right.zcal256
  /-- Between events the capture count is below 256 (R15). -/
  count : z.count < 256
  /-- The sums are of unclipped samples (R15). -/
  sums : z.sumL.natAbs ≤ z.count * 8388607 ∧ z.sumR.natAbs ≤ z.count * 8388607

/-- The Roster (R78): counts within 0 to 3, UNKNOWN entries untouched, the own place and the places from N up as
power-on left them. -/
structure RosterInv (s : State) : Prop where
  counts : ∀ p : Pos, (s.roster[p]).misses ≤ 3 ∧ (s.roster[p]).slips ≤ 3
  unknown : ∀ p : Pos, (s.roster[p]).state = .unknown → s.roster[p] = emptyRosterEntry
  absent : ∀ p : Pos, p = s.own ∨ s.conf.straps.count ≤ p.val → s.roster[p] = emptyRosterEntry

/-- The shape of an open vehicle between events (R124, R128, R133): 1 to 3 groups of 1 to 4 axles, fewer than twelve
axles, the sizes summing to the axle count. -/
structure VehicleShape (v : OpenVehicle) : Prop where
  ordinal : 1 ≤ v.ordinal ∧ v.ordinal ≤ 4095
  groups : 1 ≤ v.groups.length ∧ v.groups.length ≤ 3
  sizes : ∀ g ∈ v.groups, 1 ≤ g ∧ g ≤ 4
  count : v.groups.sum = v.axles.length
  axles : v.axles.length < 12

/-- The Vehicle Assembler (R124, R128). -/
structure AssemblerInv (a : Assembler) : Prop where
  counter : a.counter ≤ 4095
  vehicle : ∀ v, a.vehicle = some v → VehicleShape v

/-- The Publication Table: at most 16 entries, one for each vehicle ordinal (R141). -/
structure PublicationInv (es : List PubEntry) : Prop where
  bound : es.length ≤ 16
  distinct : (es.map PubEntry.ordinal).Nodup

/-- What an entry of the Consensus Table in OPEN or DECIDED holds (R88, R94, R95). -/
structure EntryInv (c : Collecting) : Prop where
  /-- At least one contribution. -/
  present : ∃ p : Pos, (c.contribs[p]).isSome = true
  /-- A position that has contributed stands in the expected set. -/
  expected : ∀ p : Pos, (c.contribs[p]).isSome = true → c.expected[p] = true
  /-- Every contribution is for the entry's ordinal. -/
  ordinals : ∀ (p : Pos) (q : Partial), c.contribs[p] = some q → q.ordinal = c.ordinal

/-- The Consensus Table with the counters it reads (R26, R88, R89, R98, R100, R102, R106). -/
structure TableInv (s : State) : Prop where
  /-- next_expected is 1 to 65,536 (R88). -/
  next : 1 ≤ s.table.nextExpected ∧ s.table.nextExpected ≤ 65536
  /-- The three counters stay within their ranges (R26, R88). -/
  counters : s.table.highestOpened ≤ 65535 ∧ s.table.handedCount ≤ 65535 ∧ s.wheel.counter ≤ 65535
  /-- A dwell's ordinal is 1 to 65,535 (R25, R26). -/
  snapshot : ∀ n, s.pass.snapshot = some n → 1 ≤ n.ordinal ∧ n.ordinal ≤ 65535
  /-- Every entry lies in the window and at or below the highest opened ordinal (R89). -/
  window : ∀ (i : Fin 16) (a : Nat), (s.table.slots[i]).ordinal? = some a →
    s.table.nextExpected ≤ a ∧ a ≤ s.table.nextExpected + 15 ∧ a ≤ s.table.highestOpened
  /-- At most one entry for any ordinal (R89). -/
  distinct : ∀ (i j : Fin 16) (a : Nat), (s.table.slots[i]).ordinal? = some a →
    (s.table.slots[j]).ordinal? = some a → i = j
  /-- An OPEN entry collects, and still awaits a position (R88, R98). -/
  opened : ∀ (i : Fin 16) (c : Collecting) (d : Tick), s.table.slots[i] = .opened c d →
    EntryInv c ∧ c.awaitedList ≠ []
  /-- A DECIDED entry keeps what it collected, and its consensus axle is that of its ordinal (R88, R100). -/
  decided : ∀ (i : Fin 16) (c : Collecting) (a : ConsensusAxle), s.table.slots[i] = .decided c a →
    EntryInv c ∧ a.ordinal = c.ordinal
  /-- No hand-over is due between events (R100, R101). -/
  settled : handStep s = none
  /-- Outside RUNNING every entry is FREE (R90, R106). -/
  free : s.train.state ≠ .running → ∀ i : Fin 16, s.table.slots[i] = .free

/-- A property that every step keeps, whatever commands wait. -/
def StepKeeps (P : State → Prop) : Prop := ∀ s t : State, P s → step s = .next t → P t

/-! ### Notions the statements use -/

/-- `w` is the exact quotient num / den rounded by a mode (R45, 00_scope.md, Arithmetic). -/
def Rounded (m : Rounding) (num : Int) (den : Nat) (w : Int) : Prop :=
  match m with
  | .nearest => (2 * (w * den - num)).natAbs ≤ den ∧ ((2 * (w * den - num)).natAbs = den → w % 2 = 0)
  | .towardZero => w.natAbs * den ≤ num.natAbs ∧ num.natAbs < (w.natAbs + 1) * den ∧ 0 ≤ w * num

/-- The fields of a partial lie in the ranges of R54, absences marked by the flags. -/
structure PartialWf (q : Partial) : Prop where
  ordinal : q.ordinal ≤ 65535
  loads : ∀ l, q.loads = some l → l.left ≤ 65535 ∧ l.right ≤ 65535
  loadsAbsent : q.loads = none ↔ hasFlag q.flags .noSamples = true
  speed : ∀ v, q.speed = some v → v ≤ 65535
  speedAbsent : q.speed = none ↔ hasFlag q.flags .brokenDwell = true
  spacing : ∀ v, q.spacing = some v → v ≤ 65535

/-- The fields of a vehicle record lie in the ranges of R136 and R138. -/
structure RecordWf (r : VehicleRecord) : Prop where
  ordinal : r.ordinal ≤ 4095
  firstAxle : r.firstAxle ≤ 65535
  axleCount : r.axleCount ≤ 12
  groups : 1 ≤ r.groups.length ∧ r.groups.length ≤ 3
  sizes : ∀ g ∈ r.groups, 1 ≤ g ∧ g ≤ 4
  totals : r.left ≤ 786420 ∧ r.gross ≤ 1572840
  speed : ∀ v, r.speed = some v → v ≤ 65534

/-- The Front End produces a pair at this tick (R2). -/
def State.producesPair (s : State) : Prop :=
  s.fe.powered = true ∧ s.fe.pairDone = false ∧
    (s.fe.pairRate = .active ∨ s.fe.pairRate = .quiet ∧ s.tick.toNat % 16 = 0)

/-- The tick count has reached `t` (R1, R98). -/
def State.reached (s : State) (t : Tick) : Prop := (s.tick - t).toNat ≤ 2147483647

/-- A report of the detector is accepted now: its hold is clear, or it is set and its last tick has passed (R22). -/
def State.holdOver (s : State) (d : Detector) : Prop :=
  ∀ e, s.wheel.hold d = some e → 1 ≤ (s.tick - e).toNat ∧ (s.tick - e).toNat ≤ 2147483647

/-- The station at the end mark of a received frame: IDLE, the recessive count begun anew (R68). -/
def State.received (s : State) : State := { s with link := { s.link with state := .idle, recessive := 0 } }

/-- The station as a frame that has passed the receive checks finds it: the link wake flag is set (R70). -/
def State.delivered (s : State) : State := { s.received with rc := { s.rc with linkWake := true } }

/-- The station takes a frame from the pair: it is RECEIVING (R68), or in IDLE with the 11 recessive bit times counted
that a start mark needs (R64). -/
def State.listening (s : State) : Prop :=
  s.link.state = .receiving ∨ s.link.state = .idle ∧ 11 ≤ s.link.recessive

/-- The frame passes the four receive checks (R70). -/
def State.accepts (s : State) (k : Kind) (f : RxFrame) : Prop :=
  f.payload.length = payloadLength k ∧ frameCheck k f.position f.sequence f.payload = f.check ∧
    (3 ≤ kindValue k → f.position.val < s.conf.straps.count ∧ f.position ≠ s.own)

/-- The kind and the frame of a row that is a received frame. -/
def frameRow (i : Instr) : Option (Kind × RxFrame) :=
  match i with
  | .powerOnReset _ _ _ => none
  | .samplePair _ _ => none
  | .zeroCaptureComplete _ _ => none
  | .settlingComplete => none
  | .quietTimerExpiry => none
  | .dormantEntryComplete => none
  | .refreshTimerExpiry => none
  | .wakeEvent _ => none
  | .detectorEvent _ _ => none
  | .debounceHoldEnd _ => none
  | .closeTimerExpiry => none
  | .deadlineExpiry _ => none
  | .attemptStart _ => none
  | .arbitrationLost => none
  | .senderError _ => none
  | .attemptComplete => none
  | .frameBroken _ _ => none
  | .restartFrame f => some (.restart, f)
  | .calibrateFrame f => some (.calibrate, f)
  | .siteFrame f => some (.site, f)
  | .trainOpenFrame f => some (.train, f)
  | .trainReversalFrame f => some (.train, f)
  | .trainCloseFrame f => some (.train, f)
  | .axleFrame f => some (.axle, f)
  | .vehicleFrame f => some (.vehicle, f)
  | .dissentFrame f => some (.dissent, f)
  | .presenceFrame f => some (.presence, f)
  | .otherPartyStartMark _ => none
  | .labelSentUnbeaten => none

/-- The command is POWER_ON_RESET. -/
def isPowerOn (i : Instr) : Prop := ∃ pos cnt sec, i = .powerOnReset pos cnt sec

end Sys2Proof.Machine
end

