-- ==== Sys2Proof/Certificates/Slice0/Obligations.lean ====
section
/-! DEFINITION. The statements for the provers. The rules of spec/ they rest on are named in OBLIGATIONS.json and in
each docstring. -/

open Sys2Proof Sys2Proof.Machine

/-! ### The machine and its queue -/

/-- The command at the front of the queue is taken by `exec` on the state with the queue's rest. -/
def Obligations.StepTakesFront : Prop :=
  ∀ (c : Instr) (rest : List Instr) (s : State), step { s with pending := c :: rest } = exec c { s with pending := rest }

/-- With no command waiting, the station's own due events are queued, and if none is due the tick count advances by one
(R1, R2, R4). An own event is due exactly when its rule says so, each at most once: a wake flag set (R7), the settling
count run down (R4), a timer of the Rate Controller expired in its rate state (R8, R9, R10), a debounce hold ended (R22),
the deadline of an OPEN entry reached (R98), the close timer expired with a train held (R161). What an idle step does is
the model's choice (log entry 2), as is that a STRAP_FAULT station has no due event (log entry 20).
The mark of a pair, its rate and the aged marks are log entries 14, 15 and 16. -/
def Obligations.IdleStep : Prop :=
  (∀ s : State, s.pending = [] →
    (s.dueEvents ≠ [] → step s = .next { s with pending := s.dueEvents }) ∧
    (s.dueEvents = [] → step s = .next
      { s with tick := s.tick + 1
               fe := { s.fe with settleCount := if s.fe.settling then s.fe.settleCount - 1 else s.fe.settleCount,
                                 settledMark := s.fe.powered && !s.fe.settling, pairRate := s.rc.rate,
                                 pairDone := false }
               wheel := { s.wheel with
                 dwell := s.wheel.dwell.map fun d =>
                   { d with aged := d.aged || 2147483647 ≤ (s.tick + 1 - d.entry).toNat },
                 prev := s.wheel.prev.map fun p =>
                   { p with aged := p.aged || 2147483647 ≤ (s.tick + 1 - p.entry).toNat } } })) ∧
  (∀ s : State, (s.strapFault = true → s.dueEvents = []) ∧ s.dueEvents.Nodup ∧
    (s.strapFault = false → ∀ c : Instr, c ∈ s.dueEvents ↔
      (c = .wakeEvent .detector ∧ s.rc.detectorWake = true) ∨
      (c = .wakeEvent .link ∧ s.rc.linkWake = true) ∨
      (c = .settlingComplete ∧ s.fe.settling = true ∧ s.fe.settleCount = 0) ∨
      (c = .quietTimerExpiry ∧ s.rc.rate = .quiet ∧ ∃ e, s.rc.quietTimer = some e ∧ s.reached e) ∨
      (c = .dormantEntryComplete ∧ s.rc.rate = .quiet ∧ ∃ e, s.rc.dormantEntry = some e ∧ s.reached e) ∨
      (c = .refreshTimerExpiry ∧ s.rc.rate = .dormant ∧ ∃ e, s.rc.refreshTimer = some e ∧ s.reached e) ∨
      (∃ (d : Detector) (e : Tick), c = .debounceHoldEnd d ∧ s.wheel.hold d = some e ∧
        1 ≤ (s.tick - e).toNat ∧ (s.tick - e).toNat ≤ 2147483647) ∨
      (∃ (i : Fin 16) (x : Collecting) (e : Tick), c = .deadlineExpiry i ∧ s.table.slots[i] = .opened x e ∧
        s.reached e) ∨
      (c = .closeTimerExpiry ∧ s.train.state ≠ .noTrain ∧ ∃ e, s.train.closeTimer = some e ∧ s.reached e)))

/-- Every command answers a next state; in STRAP_FAULT every command but power-on reset leaves the station as it is; and
no command but power-on reset writes the tick count or the straps, and none touches the commands that wait (R1, R5, R21,
R60, R167). That no command stops is log entry 28.
That a STRAP_FAULT station takes no command but power-on reset is log entry 20, that the reset leaves waiting commands log
entry 25. -/
def Obligations.CommandsAnswer : Prop :=
  ((∀ (c : Instr) (s : State), ∃ t, exec c s = .next t) ∧
   (∀ (c : Instr) (s : State), s.strapFault = true → ¬ isPowerOn c → exec c s = .next s)) ∧
  (∀ (c : Instr) (s t : State), exec c s = .next t →
     t.pending = s.pending ∧ (¬ isPowerOn c → t.tick = s.tick ∧ t.conf.straps = s.conf.straps))

/-- The train number rises by one, modulo 256, at the command that opens a train, and no other command but power-on
reset writes it (R165, R155). -/
def Obligations.TrainNumberRule : Prop :=
  ∀ (c : Instr) (s t : State), exec c s = .next t → ¬ isPowerOn c →
    t.train.number =
      (if s.train.state = .noTrain ∧ t.train.state ≠ .noTrain then s.train.number + 1 else s.train.number)

/-- Within one train the own standing changes in one way only, from CONTRIBUTING to DESYNC (R87, R112, R156). -/
def Obligations.StandingHolds : Prop :=
  ∀ (c : Instr) (s t : State), exec c s = .next t → ¬ isPowerOn c →
    s.train.state ≠ .noTrain → t.train.state ≠ .noTrain →
      t.train.standing = s.train.standing ∨ (s.train.standing = .contributing ∧ t.train.standing = .desync)

/-- Between power-on resets zcal256 changes only when a CALIBRATE is accepted or a capture completes (R12, R170), and
with a train held z256 changes only at such an acceptance (R13). -/
def Obligations.ZeroWrites : Prop :=
  ∀ (c : Instr) (s t : State), exec c s = .next t → ¬ isPowerOn c →
    ((t.zero.left.zcal256 ≠ s.zero.left.zcal256 ∨ t.zero.right.zcal256 ≠ s.zero.right.zcal256) →
      (s.conf.cal = none ∧ t.conf.cal.isSome = true) ∨
        (s.zero.capturePending = true ∧ t.zero.capturePending = false ∧ s.conf.cal.isSome = true)) ∧
    (s.train.state ≠ .noTrain → (s.conf.cal = none → t.conf.cal = none) →
      t.zero.left.z256 = s.zero.left.z256 ∧ t.zero.right.z256 = s.zero.right.z256)

/-- A held CALIBRATE and a held SITE are locked: only power-on reset or a RESTART that releases configuration drops
them, and each is taken up only from its own frame (R169, R170, R171, R174). -/
def Obligations.SettingsLocked : Prop :=
  ∀ (c : Instr) (s t : State), exec c s = .next t → ¬ isPowerOn c →
    (∀ k, s.conf.cal = some k → t.conf.cal = some k ∨
      (t.conf.cal = none ∧ t.conf.site = none ∧ ∃ f, c = .restartFrame f ∧ restartKeeps f.payload = false)) ∧
    (∀ k, s.conf.site = some k → t.conf.site = some k ∨
      (t.conf.cal = none ∧ t.conf.site = none ∧ ∃ f, c = .restartFrame f ∧ restartKeeps f.payload = false)) ∧
    (s.conf.cal = none → t.conf.cal.isSome = true → ∃ f, c = .calibrateFrame f ∧ f.position = s.own) ∧
    (s.conf.site = none → t.conf.site.isSome = true → ∃ f, c = .siteFrame f)

/-! ### What every step keeps -/

/-- The transmit queue, the attempt and the attempt count keep their form at every step (R63, R64, R67, R73, R74,
R75).
The identities of frames are log entry 19, the recessive count up to 11 log entry 7. -/
def Obligations.QueueInvKept : Prop := StepKeeps fun s => QueueInv s.link

/-- Rate state, Front End, timers and train state stay together at every step: a station is never DORMANT while it
holds a train (R4, R5, R6, R8, R9, R10, R160, R168). -/
def Obligations.RateInvKept : Prop := StepKeeps RateInv

/-- Zeros and capture sums stay in their ranges at every step (R12, R13, R15, R16). -/
def Obligations.ZeroInvKept : Prop := StepKeeps fun s => ZeroInv s.zero

/-- The Roster keeps its form at every step (R78, R79, R82, R84, R85, R86). -/
def Obligations.RosterInvKept : Prop := StepKeeps RosterInv

/-- The open vehicle keeps its shape at every step (R124, R127, R128, R129, R130, R133). -/
def Obligations.AssemblerInvKept : Prop := StepKeeps fun s => AssemblerInv s.asm

/-- The Publication Table holds at most 16 entries, one for each vehicle ordinal, at every step (R141, R143).
That the table is a list is log entry 27. -/
def Obligations.PublicationInvKept : Prop := StepKeeps fun s => PublicationInv s.pub

/-- The Consensus Table keeps to its window at every step (R26, R88, R89, R90, R98, R100, R101, R102, R106). -/
def Obligations.TableInvKept : Prop := StepKeeps TableInv

/-- Every invariant above holds right after reset, with the model's straps of log entry 4. -/
def Obligations.ResetInvariants : Prop :=
  QueueInv State.reset.link ∧ RateInv State.reset ∧ ZeroInv State.reset.zero ∧ RosterInv State.reset ∧
    AssemblerInv State.reset.asm ∧ PublicationInv State.reset.pub ∧ TableInv State.reset

/-! ### The form of frames -/

/-- A frame sent on the pair is received as it was sent: after the start mark, the receiver takes from the bits of
label, length, payload, check, fill bits and end mark exactly the frame's row, whatever follows (R61, R62, R63, R68,
R175).
The row of a TRAIN frame with a subtype outside 1 to 3 is log entry 18; the received frame names the Roster first, the
default of log entry 8. -/
def Obligations.FrameReadsBack : Prop :=
  ∀ (k : Kind) (p : Pos) (seq : BitVec 6) (payload : List Byte) (rest : List Bool), payload.length ≤ 24 →
    receiveBits ((wireBits k p seq payload).drop 1 ++ rest) =
      some (frameCommand k { position := p, sequence := seq, payload := payload,
                             check := frameCheck k p seq payload })

/-- The bits of a frame: label, length and payload most significant bit first, 35 + 8n bits with n payload bytes before
fill bits, start and end mark dominant, and never recessive for more than eight bit times (R61, R62). The check register
starts at 65,535; each bit of label, length and payload shifts it toward bit 15 and, when that bit and bit 15 differ, turns
bits 13, 11, 6, 2 and 0, the generator 10,309; run over a string and the string's own check it ends at 0 (R63). -/
def Obligations.WireForm : Prop :=
  (∀ (k : Kind) (p : Pos) (seq : BitVec 6) (payload : List Byte),
     ¬ List.replicate 9 true <:+: wireBits k p seq payload ∧
     (bodyBits k p seq payload).length + 16 + 2 = 35 + 8 * payload.length ∧
     (wireBits k p seq payload).head? = some false ∧ (wireBits k p seq payload).getLast? = some false ∧
     (∀ i : Nat, i < 12 → (bodyBits k p seq payload)[i]? =
       some ((kindValue k * 512 + p.val * 64 + seq.toNat).testBit (11 - i))) ∧
     (∀ i : Nat, i < 5 → (bodyBits k p seq payload)[12 + i]? = some (payload.length.testBit (4 - i))) ∧
     (∀ (j : Nat) (b : Byte), payload[j]? = some b → ∀ i : Nat, i < 8 →
       (bodyBits k p seq payload)[17 + 8 * j + i]? = some (b.getLsbD (7 - i))) ∧
     frameCheck k p seq payload = checkOfBits (bodyBits k p seq payload)) ∧
  (checkOfBits [] = 65535 ∧
   (∀ (l : List Bool) (b : Bool) (i : Nat), i < 16 → (checkOfBits (l ++ [b])).getLsbD i =
     ((decide (0 < i) && (checkOfBits l).getLsbD (i - 1)) ^^
       ((b ^^ (checkOfBits l).getLsbD 15) && decide (i ∈ [0, 2, 6, 11, 13]))))) ∧
  (∀ l : List Bool, checkOfBits (l ++ bitsOf 16 (checkOfBits l).toNat) = 0)

/-- A partial sent in an AXLE frame is rebuilt as it was, absences included; a record sent in a VEHICLE frame is rebuilt
with every field but the right total; a DISSENT frame carries the same bytes and the position it dissents from; the group
patterns of two records compare as the records do (R54, R144, R177, R178, R179).
That the right total of a received record is not kept is log entry 24. -/
def Obligations.ContentsReadBack : Prop :=
  (∀ q : Partial, PartialWf q → readAxle (axlePayload q) = q ∧ (axlePayload q).length = 12 ∧
     (q.loads = none → get2 (axlePayload q) 2 = 0 ∧ get2 (axlePayload q) 4 = 0) ∧
     (q.speed = none → get2 (axlePayload q) 6 = 0) ∧ (q.spacing = none → get2 (axlePayload q) 8 = 0)) ∧
  (∀ (r : VehicleRecord) (p peer : Pos), RecordWf r →
     readVehicle p (vehiclePayload r) =
       { sender := p, ordinal := r.ordinal, trainNo := r.trainNo, firstAxle := r.firstAxle, axleCount := r.axleCount,
         groupCount := r.groups.length, sizes := [r.groups.getD 0 1, r.groups.getD 1 1, r.groups.getD 2 1],
         gross := r.gross, left := r.left, speed := r.speed, flags := r.flags, summary := r.summary } ∧
     (vehiclePayload r).length = 17 ∧
     (dissentPayload r peer).take 17 = vehiclePayload r ∧ get1 (dissentPayload r peer) 17 = peer.val ∧
     (dissentPayload r peer).length = 18 ∧
     (∀ own : VehicleRecord, sameGroups own (readVehicle p (vehiclePayload r)) = true ↔ own.groups = r.groups))

/-- The label is read as kind, position and sequence, and a lower kind makes a lower label; a TRAIN payload is rebuilt; the
eight bytes of a PRESENCE payload bear the codes of R177, and it says READY exactly when its sender is READY (R62, R65,
R80, R175, R177, R179). -/
def Obligations.LabelsAndStatusReadBack : Prop :=
  (∀ (k : Kind) (p : Pos) (q : BitVec 6), labelOf k p q < 4096 ∧ kindOf (labelOf k p q / 512) = k ∧
    labelOf k p q / 64 % 8 = p.val ∧ labelOf k p q % 64 = q.toNat) ∧
  (∀ (k k' : Kind) (p p' : Pos) (q q' : BitVec 6), kindValue k < kindValue k' → labelOf k p q < labelOf k' p' q') ∧
  (∀ (p : Pos) (sub : Nat) (d : Direction) (n : BitVec 8) (o v : Nat) (r x : Bool), sub < 256 → o < 65536 → v < 65536 →
    readTrain p (trainPayload sub d n o v r x) =
      { sender := p, subtype := sub, dir := d, trainNo := n, ordinal := o, vehicles := v, reversed := r, desync := x } ∧
    (trainPayload sub d n o v r x).length = 8) ∧
  (∀ (c : ConfigState) (l : LastRefusal) (zL zR : ZeroState) (fs : FaultSet) (n sec : Nat) (t : BitVec 8),
    let zero := fun (z : ZeroState) => match z with
      | .ok => (0 : Byte)
      | .warn => 1
      | .limit => 2
    presencePayload c l zL zR fs n sec t =
      [ (match c with
         | .blank => 0
         | .calHeld => 1
         | .listening => 2
         | .capturing => 3
         | .ready => 4),
        (match l with
         | .none => 0
         | .calRefused => 1
         | .siteRefused => 2),
        zero zL, zero zR,
        (if fs.zeroLimit = true then 1 else 0) + (if fs.idleOverrange = true then 2 else 0) +
          (if fs.positionClash = true then 4 else 0) + (if fs.linkFailure = true then 8 else 0),
        BitVec.ofNat 8 n, BitVec.ofNat 8 sec, t ] ∧
    (presenceReady (presencePayload c l zL zR fs n sec t) = true ↔ c = .ready))


/-! ### Loads and partials -/

/-- The wheel loads of a calibrated dwell whose plateau is not empty: for each channel the exact quotient of R44 with
the snapshot's zero and span, rounded by the snapshot's one mode, that of the entry event (R45), then clamped to 0 to
65,535 with NEGATIVE and SATURATED judged after rounding (R46). -/
def Obligations.WheelLoads : Prop :=
  (∀ (site : Option Site) (n : Snapshot) (w : Weighing) (ps : List Pair), n.weighing = some w → ps ≠ [] →
     ∃ wl wr : Int,
       Rounded w.rounding
         ((256 * (ps.map fun p => p.left.toInt).sum - ps.length * n.zL) * w.spanL.mantissa)
         (ps.length * 2 ^ (w.spanL.exponent + 8)) wl ∧
       Rounded w.rounding
         ((256 * (ps.map fun p => p.right.toInt).sum - ps.length * n.zR) * w.spanR.mantissa)
         (ps.length * 2 ^ (w.spanR.exponent + 8)) wr ∧
       (weigh site n ps).1 = some ⟨(min (max wl 0) 65535).toNat, (min (max wr 0) 65535).toNat⟩ ∧
       (hasFlag (weigh site n ps).2 .negative = true ↔ wl < 0 ∨ wr < 0) ∧
       (hasFlag (weigh site n ps).2 .saturated = true ↔ 65535 < wl ∨ 65535 < wr)) ∧
  (∀ (s : State) (a : Nat), (s.entrySnapshot a).zL = s.zero.left.z256 ∧ (s.entrySnapshot a).zR = s.zero.right.z256 ∧
    (s.entrySnapshot a).weighing = s.conf.cal.map (fun c => ⟨c.spanL, c.spanR, c.rounding⟩))

/-- The partial of a closed dwell: its fields, its loads and load flags those of the plateau's pairs weighed under the
snapshot (WheelLoads and QualityChecks say what they are), and the flags that the dwell, the snapshot and the fault set
give it (R40, R42, R47, R51, R52, R54). -/
def Obligations.ClosedPartialFields : Prop :=
  ∀ (site : Option Site) (n : Snapshot) (buffer : List Pair) (dir : Direction) (d speed : Nat) (spacing : Option Nat)
    (fault : Bool),
    let q := closedPartial site n buffer dir d speed spacing fault
    let ps := buffer.filter fun p => min d 65535 / 8 ≤ (p.stamp - n.entry).toNat ∧
      (p.stamp - n.entry).toNat < min d 65535 - min d 65535 / 8
    q.ordinal = n.ordinal ∧ q.dir = dir ∧ q.speed = some speed ∧ q.spacing = spacing ∧
    q.loads = (weigh site n ps).1 ∧ (q.loads = none ↔ n.weighing = none ∨ ps = []) ∧
    (∀ f ∈ [PartialFlag.negative, .saturated, .impact, .imbalance, .overload],
      hasFlag q.flags f = hasFlag (weigh site n ps).2 f) ∧
    (hasFlag q.flags .noSamples = true ↔ n.weighing = none ∨ ps = []) ∧
    (hasFlag q.flags .short = true ↔ n.weighing ≠ none ∧ 1 ≤ ps.length ∧ ps.length ≤ 7) ∧
    (hasFlag q.flags .overrange = true ↔ n.weighing ≠ none ∧ ∃ p ∈ ps, p.clipped = true) ∧
    (hasFlag q.flags .unsettled = true ↔ n.weighing ≠ none ∧ ∃ p ∈ ps, p.settled = false) ∧
    (hasFlag q.flags .incomplete = true ↔ 65535 < d) ∧
    (hasFlag q.flags .zeroWarn = true ↔ n.zstateL = .warn ∨ n.zstateR = .warn) ∧
    (hasFlag q.flags .zeroLimit = true ↔ n.zstateL = .limit ∨ n.zstateR = .limit) ∧
    (hasFlag q.flags .stationFault = true ↔ fault = true) ∧
    hasFlag q.flags .brokenDwell = false

/-- The three quality checks of a partial with loads, under the held SITE: IMBALANCE on the clamped loads (R48), IMPACT
on either channel whose mean departure is positive (R49), OVERLOAD (R50). -/
def Obligations.QualityChecks : Prop :=
  ∀ (st : Site) (n : Snapshot) (w : Weighing) (ps : List Pair) (l : Loads), n.weighing = some w → ps ≠ [] →
    (weigh (some st) n ps).1 = some l →
    let sum := fun (f : Pair → Sample) => (ps.map fun p => (f p).toInt).sum
    let impact := fun (f : Pair → Sample) (z : Int) => 0 < 256 * sum f - ps.length * z ∧
      ∃ p ∈ ps, (∀ q ∈ ps, (f q).toInt ≤ (f p).toInt) ∧
        st.impact * (256 * sum f - ps.length * z) < (256 * (f p).toInt - z) * 100 * ps.length
    (hasFlag (weigh (some st) n ps).2 .imbalance = true ↔
      0 < l.left + l.right ∧ st.imbalance * (l.left + l.right) < ((l.left : Int) - l.right).natAbs * 100) ∧
    (hasFlag (weigh (some st) n ps).2 .impact = true ↔ impact Pair.left n.zL ∨ impact Pair.right n.zR) ∧
    (hasFlag (weigh (some st) n ps).2 .overload = true ↔ 100 * st.overload < l.left + l.right)

/-! ### Consensus arithmetic -/

/-- Which contributions a decision keeps for its loads: the lower median is the value at place floor((n + 1) / 2) in
ascending order; a slip is a spacing more than a quarter away from the median of at least three, and a contribution has
no slip result when fewer carry a spacing or it carries none; the four conditions of eligibility; the trim drops from
four or more the first of least axle load and the last of greatest; what is kept is the trim of the eligible
contributions' loads, and the present contributions stand in ascending order of position (R108, R109, R110, R111, R113,
R115, R120). -/
def Obligations.KeptContributions : Prop :=
  (∀ l : List Nat, l ≠ [] → ∃ m, lowerMedian l = some m ∧ m ∈ l ∧
     (l.filter (· < m)).length < (l.length + 1) / 2 ∧ (l.length + 1) / 2 ≤ (l.filter (· ≤ m)).length) ∧
  (∀ (mask : FlagSet) (cs : List Contribution) (x : Contribution),
     (slipped cs x = true ↔ 3 ≤ (cs.filterMap fun y => y.part.spacing).length ∧
       ∃ m sp, lowerMedian (cs.filterMap fun y => y.part.spacing) = some m ∧ x.part.spacing = some sp ∧
         25 * m < ((sp : Int) - m).natAbs * 100) ∧
     (slipResult cs x = none ↔ (cs.filterMap fun y => y.part.spacing).length < 3 ∨ x.part.spacing = none) ∧
     (slipResult cs x = some true ↔ slipped cs x = true) ∧
     (eligible mask cs x = true ↔ slipped cs x = false ∧ x.part.loads ≠ none ∧
       hasFlag x.part.flags .noSamples = false ∧ hasFlag x.part.flags .zeroLimit = false ∧
       hasFlag x.part.flags .brokenDwell = false ∧
       ∀ f : PartialFlag, ¬ (hasFlag x.part.flags f = true ∧ hasFlag mask f = true))) ∧
  (∀ ls : List Loads, (ls.length < 4 → trim ls = ls) ∧
     (4 ≤ ls.length → ∃ lo hi : Loads, (lo :: hi :: trim ls).Perm ls ∧
       (∀ x ∈ trim ls, lo.axle ≤ x.axle ∧ x.axle ≤ hi.axle) ∧
       (∃ pre post, ls = pre ++ lo :: post ∧ ∀ x ∈ pre, lo.axle < x.axle) ∧
       (∃ pre post, ls = pre ++ hi :: post ∧ ∀ x ∈ post, x.axle < hi.axle))) ∧
  (∀ (mask : FlagSet) (cs : List Contribution), keptLoads mask cs =
     trim ((cs.filter (eligible mask cs)).filterMap fun x => x.part.loads)) ∧
  (∀ c : Collecting, c.present.Pairwise (fun x y => x.pos < y.pos) ∧
     ∀ x : Contribution, x ∈ c.present ↔ c.contribs[x.pos] = some x.part)

/-- The consensus loads of a decision are the means of the kept left and right loads, rounded to the nearest integer with
an exact half going to the even neighbour, each between the least and the greatest kept, so at most 65,535 (R116). -/
def Obligations.ConsensusLoads : Prop :=
  ∀ (d : DecisionSettings) (c : Collecting) (t : Trigger) (x : Loads), (decideAxle d c t).loads = some x →
    let kept := keptLoads d.mask c.present
    kept ≠ [] ∧
    Rounded .nearest ((kept.map Loads.left).sum : Nat) kept.length x.left ∧
    Rounded .nearest ((kept.map Loads.right).sum : Nat) kept.length x.right ∧
    (∃ a ∈ kept, ∃ b ∈ kept, a.left ≤ x.left ∧ x.left ≤ b.left) ∧
    (∃ a ∈ kept, ∃ b ∈ kept, a.right ≤ x.right ∧ x.right ≤ b.right) ∧
    ((∀ y ∈ c.present, ∀ l, y.part.loads = some l → l.left ≤ 65535 ∧ l.right ≤ 65535) →
      x.left ≤ 65535 ∧ x.right ≤ 65535 ∧ x.axle ≤ 131070)

/-- LOW_QUORUM is set exactly when the eligible count is above 0 and below the quorum taken as 1 to N; at 0 the axle is
UNWEIGHED, without loads, and never both; with a quorum of 1 LOW_QUORUM is never set (R114, R117). -/
def Obligations.QuorumAndUnweighed : Prop :=
  (∀ (d : DecisionSettings) (c : Collecting) (t : Trigger), 1 ≤ d.count →
     let a := decideAxle d c t
     let k := (c.present.filter (eligible d.mask c.present)).length
     (a.flags.lowQuorum = true ↔ 0 < k ∧ k < max 1 (min d.quorum d.count)) ∧
     (a.flags.unweighed = true ↔ k = 0) ∧ (a.loads = none ↔ k = 0) ∧
     ¬ (a.flags.lowQuorum = true ∧ a.flags.unweighed = true) ∧
     (d.quorum ≤ 1 → a.flags.lowQuorum = false) ∧
     (d.count ≤ d.quorum → 0 < k → (a.flags.lowQuorum = true ↔ k < d.count))) ∧
  (∀ (s : State) (st : Site), s.conf.site = some st → s.decisionSettings.quorum = st.quorum ∧
    s.decisionSettings.count = s.conf.straps.cnt.toNat + 1)

/-- What a decision gives its consensus axle beside its loads, LOW_QUORUM and UNWEIGHED: the other consensus flags, the
floor of the mean of the speeds carried, the lower median of the spacings carried, and the flags that a present
contribution carries; and the settings a decision reads, the held SITE's mask, quorum and spread limit and the strapped
station count (R98, R108, R110, R118, R119, R120, R121, R122, R123). -/
def Obligations.DecisionFields : Prop :=
  (∀ (d : DecisionSettings) (c : Collecting) (t : Trigger),
     let f := (decideAxle d c t).flags
     let kept := keptLoads d.mask c.present
     (f.missing = true ↔ ∃ p : Pos, c.expected[p] = true ∧ c.contribs[p] = none) ∧
     (f.slipped = true ↔ ∃ x ∈ c.present, slipped c.present x = true) ∧
     (f.spread = true ↔ ∃ a ∈ kept, ∃ b ∈ kept, 100 * d.spread + a.axle < b.axle) ∧
     (f.timedOut = true ↔ t = .deadline) ∧ (f.forced = true ↔ t = .forced) ∧ f.hole = false ∧
     (∀ x : Contribution, x ∈ c.present ↔ c.contribs[x.pos] = some x.part)) ∧
  (∀ (d : DecisionSettings) (c : Collecting) (t : Trigger),
     let a := decideAxle d c t
     let vs := c.present.filterMap fun x => x.part.speed
     (a.speed = none ↔ vs = []) ∧
     (∀ v, a.speed = some v → v * vs.length ≤ vs.sum ∧ vs.sum < (v + 1) * vs.length) ∧
     a.spacing = lowerMedian (c.present.filterMap fun x => x.part.spacing) ∧
     (∀ f : PartialFlag, hasFlag a.noted f = true ↔ ∃ x ∈ c.present, hasFlag x.part.flags f = true) ∧
     a.ordinal = c.ordinal) ∧
  (∀ (s : State) (st : Site), s.conf.site = some st → s.decisionSettings =
     { mask := st.mask, quorum := st.quorum, spread := st.spread, count := s.conf.straps.cnt.toNat + 1 })

/-! ### Vehicles and timer lengths -/

/-- Spacing classes: with B1 < B2 < B3, as every accepted SITE has them with B1 above the section length, each spacing
falls in exactly the class of R125, an absent one in COUPLING, a spacing of 0 in BOGIE (R125, R171). -/
def Obligations.SpacingClasses : Prop :=
  (∀ (s : State) (st : Site) (a : ConsensusAxle), s.conf.site = some st → st.b1 < st.b2 → st.b2 < st.b3 →
    (s.axleClass a = .bogie ↔ ∃ x, a.spacing = some x ∧ x < st.b1) ∧
    (s.axleClass a = .coupling ↔ a.spacing = none ∨ ∃ x, a.spacing = some x ∧ st.b1 ≤ x ∧ x < st.b2) ∧
    (s.axleClass a = .body ↔ ∃ x, a.spacing = some x ∧ st.b2 ≤ x ∧ x < st.b3) ∧
    (s.axleClass a = .gap ↔ ∃ x, a.spacing = some x ∧ st.b3 ≤ x)) ∧
  (∀ (n len : Nat) (p : List Byte) (st : Site), readSite n len p = some st →
    st.b1 < st.b2 ∧ st.b2 < st.b3 ∧ len < st.b1 * 10 ∧ ∀ b2 b3, classOf st.b1 b2 b3 (some 0) = .bogie)

/-- The record of a closing vehicle: totals over its weighed axles, gross the sum of both and of the axle loads, mean
speed at most 65,534, each vehicle flag from the opening, the closing and, for PARTIAL and DOUBTFUL, from its axles, the
summary from its axles, within the bounds of R136 for a shape of R136 (R123, R136, R137, R138). -/
def Obligations.VehicleRecordFields : Prop :=
  ∀ (n : BitVec 8) (closing : VehicleFlags) (v : OpenVehicle),
    let r := recordOf n closing v
    let ls := v.axles.filterMap fun a => a.axle.loads
    let vs := v.axles.filterMap fun a => a.axle.speed
    r.ordinal = v.ordinal ∧ r.trainNo = n ∧ r.firstAxle = v.firstAxle ∧ r.axleCount = v.axles.length ∧
    r.groups = v.groups ∧ r.left = (ls.map Loads.left).sum ∧ r.right = (ls.map Loads.right).sum ∧
    r.gross = r.left + r.right ∧ r.gross = (ls.map Loads.axle).sum ∧
    (r.speed = none ↔ vs = []) ∧ (vs ≠ [] → r.speed = some (min (vs.sum / vs.length) 65534)) ∧
    (r.flags.partly = true ↔ v.flags.partly = true ∨ closing.partly = true ∨
      ∃ a ∈ v.axles, a.axle.flags.unweighed = true) ∧
    (r.flags.doubtful = true ↔ v.flags.doubtful = true ∨ closing.doubtful = true ∨ ∃ a ∈ v.axles,
      a.axle.flags.missing = true ∨ a.axle.flags.lowQuorum = true ∨ a.axle.flags.unweighed = true ∨
      a.axle.flags.spread = true ∨ a.axle.flags.hole = true ∨ a.axle.flags.forced = true ∨
      a.axle.flags.timedOut = true) ∧
    (r.flags.first = true ↔ v.flags.first = true ∨ closing.first = true) ∧
    (r.flags.last = true ↔ v.flags.last = true ∨ closing.last = true) ∧
    (r.flags.unresolved = true ↔ v.flags.unresolved = true ∨ closing.unresolved = true) ∧
    (r.flags.split = true ↔ v.flags.split = true ∨ closing.split = true) ∧
    (r.flags.gap = true ↔ v.flags.gap = true ∨ closing.gap = true) ∧
    (r.flags.reversed = true ↔ v.flags.reversed = true ∨ closing.reversed = true) ∧
    (∀ f : PartialFlag, hasFlag r.summary f = true ↔ ∃ a ∈ v.axles, hasFlag a.axle.noted f = true) ∧
    (v.axles.length ≤ 12 → (∀ l ∈ ls, l.left ≤ 65535 ∧ l.right ≤ 65535) →
      r.left ≤ 786420 ∧ r.right ≤ 786420 ∧ r.gross ≤ 1572840)

/-! ### Power-on, pairs and rates -/

/-- POWER_ON_RESET completes: every block as its chapter gives it, and DORMANT and silent with POS of N or more (R1, R4,
R5, R12, R37, R41, R77, R78, R90, R140, R141, R155, R167, R173). The identity 0 is the model's (log entry 19),
as is that the commands that wait stay (log entry 25). -/
def Obligations.PowerOnResetEffect : Prop :=
  ∀ (pos cnt : BitVec 3) (sec : BitVec 4) (s : State), ∃ t, exec (.powerOnReset pos cnt sec) s = .next t ∧
    t.conf = { straps := ⟨pos, cnt, sec⟩, cal := none, site := none, lastRefusal := .none } ∧ t.tick = 0 ∧
    t.pending = s.pending ∧
    t.zero = { left := ⟨0, 0, .ok⟩, right := ⟨0, 0, .ok⟩, capturePending := false, count := 0, sumL := 0, sumR := 0 } ∧
    t.wheel = { holdA := none, holdB := none, dwell := none, counter := 0, prev := none } ∧
    t.pass = { buffer := [], snapshot := none, latestPair := none, latestSpeed := none,
               faults := ⟨false, false, false, false⟩ } ∧
    (∀ p : Pos, t.roster[p] = ⟨.unknown, false, 0, 0⟩) ∧
    (∀ i : Fin 16, t.table.slots[i] = .free) ∧ t.table.nextExpected = 1 ∧ t.table.highestOpened = 0 ∧
    t.table.handedCount = 0 ∧ t.table.latestSpeed = none ∧
    t.asm = { vehicle := none, counter := 0, fullClose := false } ∧ t.pub = [] ∧
    t.train = { state := .noTrain, dir := .up, standing := .notReady, slips := 0, closeTimer := none, ownClose := none,
                peerClose := none, openFrame := none, closeFrame := none, number := 0 } ∧
    t.link.state = .idle ∧ t.link.recessive = 0 ∧ t.link.attempt = none ∧ t.link.cancelled = false ∧
    t.link.counted = none ∧ t.link.attempts = 0 ∧
    t.rc.quietTimer = none ∧ t.rc.refreshTimer = none ∧ t.rc.dormantEntry = none ∧ t.rc.detectorWake = false ∧
    t.rc.linkWake = false ∧
    (pos.toNat ≤ cnt.toNat → t.strapFault = false ∧ t.rc.rate = .quiet ∧ t.fe.powered = true ∧
      t.fe.settling = true ∧ t.fe.settleCount = 2048 ∧
      t.link.queue = [{ id := 0, kind := .presence, seq := 0,
                        payload := [0, 0, 0, 0, 0, BitVec.ofNat 8 (cnt.toNat + 1), BitVec.ofNat 8 sec.toNat, 0] }]) ∧
    (cnt.toNat < pos.toNat → t.strapFault = true ∧ t.rc.rate = .dormant ∧ t.fe.powered = false ∧
      t.fe.settling = false ∧ t.link.queue = [])

/-- SAMPLE_PAIR with a train held completes: the pair becomes the latest pair and joins the buffer of an open calibrated
dwell within its 65,535 ticks, and nothing else changes; at a tick without a pair nothing changes (R2, R13, R16, R39,
R40).
The mark pairDone, one pair a tick, is log entry 14, the aged mark of a dwell log entry 16. -/
def Obligations.SamplePairInTrain : Prop :=
  ∀ (l r : Sample) (s : State), s.strapFault = false →
    (¬ s.producesPair → exec (.samplePair l r) s = .next s) ∧
    (s.producesPair → s.train.state ≠ .noTrain → ∀ stored : List Pair,
      let p : Pair := { stamp := s.tick, left := l, right := r, settled := s.fe.settledMark }
      let reach := ∃ d n w, s.wheel.dwell = some d ∧ s.pass.snapshot = some n ∧ n.weighing = some w ∧
        d.aged = false ∧ (s.tick - d.entry).toNat ≤ 65534
      (reach → stored = s.pass.buffer ++ [p]) → (¬ reach → stored = s.pass.buffer) →
        exec (.samplePair l r) s = .next
          { s with fe := { s.fe with pairDone := true }
                   pass := { s.pass with latestPair := some p, buffer := stored } })

/-- One channel of the Zero Tracker on one sample: a clipped sample or one beyond the band leaves it, any other moves the
zero by the truncated step and judges the drift afresh. SAMPLE_PAIR in NO_TRAIN with a CALIBRATE held and no capture in
flight: a settled pair is tracked on both channels and becomes the latest pair; a settled clipped pair sets
IDLE_OVERRANGE, a channel entering LIMIT sets ZERO_LIMIT, and the set's change from empty offers a PRESENCE. SAMPLE_PAIR in
NO_TRAIN with an unsettled pair, or without a CALIBRATE: the latest pair is replaced, and nothing else changes but that a
settled clipped pair sets IDLE_OVERRANGE, offering a PRESENCE from an empty fault set (R2, R3, R13, R14, R15, R17, R18,
R39, R173). What an offer does to the transmit queue, a full one included, stands in QueueOffers.
The mark pairDone is log entry 14, the frame identity log entry 19; that a pair that sets both faults sets IDLE_OVERRANGE
first, with the zero states from before the pair in its PRESENCE, is log entry 11; that the unclipped channel of a clipped
pair is tracked, where R3 and R13 differ, is log entry 33. -/
def Obligations.SamplePairTracks : Prop :=
  (∀ (band k warn limit : Nat) (x : Sample) (c : ZeroChannel),
     let d := 256 * x.toInt - c.z256
     let t := trackChannel band k warn limit x c
     let drift := (t.z256 - t.zcal256).natAbs
     ((x.toInt = -8388608 ∨ x.toInt = 8388607 ∨ 256 * band < d.natAbs) → t = c) ∧
     (x.toInt ≠ -8388608 → x.toInt ≠ 8388607 → d.natAbs ≤ 256 * band →
       t.z256 = c.z256 + Int.tdiv d (2 ^ k) ∧ t.zcal256 = c.zcal256 ∧
       (t.zstate = .limit ↔ 256 * limit < drift) ∧
       (t.zstate = .warn ↔ ¬ 256 * limit < drift ∧ 256 * warn < drift) ∧
       (t.z256 = c.z256 ∨ (c.z256 < t.z256 ∧ t.z256 ≤ 256 * x.toInt) ∨
         (256 * x.toInt ≤ t.z256 ∧ t.z256 < c.z256)))) ∧
  (∀ (l r : Sample) (s : State) (cal : Calibrate), s.strapFault = false → s.producesPair → s.train.state = .noTrain →
     s.conf.cal = some cal → s.zero.capturePending = false → s.fe.settledMark = true → s.wheel.dwell = none →
     let k := (s.conf.site.map Site.k).getD 8
     let zl := trackChannel cal.band k cal.warn cal.limit l s.zero.left
     let zr := trackChannel cal.band k cal.warn cal.limit r s.zero.right
     let clip := clippedSample l = true ∨ clippedSample r = true
     let limit := (s.zero.left.zstate ≠ .limit ∧ zl.zstate = .limit) ∨ (s.zero.right.zstate ≠ .limit ∧ zr.zstate = .limit)
     let p : Pair := { stamp := s.tick, left := l, right := r, settled := true }
     ∃ t, exec (.samplePair l r) s = .next t ∧
       t.zero = { s.zero with left := zl, right := zr } ∧ t.pass.latestPair = some p ∧ t.pass.buffer = s.pass.buffer ∧
       t.fe = { s.fe with pairDone := true } ∧
       (t.pass.faults.idleOverrange = true ↔ s.pass.faults.idleOverrange = true ∨ clip) ∧
       (t.pass.faults.zeroLimit = true ↔ s.pass.faults.zeroLimit = true ∨ limit) ∧
       t.pass.faults.positionClash = s.pass.faults.positionClash ∧
       t.pass.faults.linkFailure = s.pass.faults.linkFailure ∧
       (¬ clip → ¬ limit → t = { s with fe := { s.fe with pairDone := true }
                                        zero := { s.zero with left := zl, right := zr }
                                        pass := { s.pass with latestPair := some p } }) ∧
       (s.pass.faults ≠ noFaults → t.link = s.link) ∧
       (s.pass.faults = noFaults → clip ∨ limit →
         let payload := presencePayload (if s.conf.site = none then .calHeld else .ready) s.conf.lastRefusal
           (if clippedSample l || clippedSample r then s.zero.left.zstate else zl.zstate)
           (if clippedSample l || clippedSample r then s.zero.right.zstate else zr.zstate)
           (if clippedSample l || clippedSample r then { noFaults with idleOverrange := true }
             else { noFaults with zeroLimit := true })
           s.conf.straps.count s.conf.straps.sec.toNat s.train.number
         t.link = (offer .presence 0 payload s).1.link ∧
         (s.link.queue.length < 8 → t.link = { s.link with
           queue := s.link.queue ++ [⟨s.link.nextId, .presence, 0, payload⟩], nextId := s.link.nextId + 1 })) ∧
       t.train = s.train ∧ t.pub = s.pub ∧ t.pending = s.pending ∧ t.rc = s.rc ∧ t.wheel = s.wheel ∧
       t.roster = s.roster ∧ t.table = s.table ∧ t.asm = s.asm ∧ t.conf = s.conf ∧
       t.tick = s.tick ∧ t.pass.snapshot = s.pass.snapshot ∧ t.pass.latestSpeed = s.pass.latestSpeed) ∧
  (∀ (l r : Sample) (s : State), s.strapFault = false → s.producesPair → s.train.state = .noTrain →
     s.wheel.dwell = none → (s.fe.settledMark = false ∨ s.conf.cal = none) →
     let p : Pair := { stamp := s.tick, left := l, right := r, settled := s.fe.settledMark }
     let u : State := { s with fe := { s.fe with pairDone := true }, pass := { s.pass with latestPair := some p } }
     let marked : State := { u with pass := { u.pass with faults := { s.pass.faults with idleOverrange := true } } }
     let clip := clippedSample l = true ∨ clippedSample r = true
     ((s.fe.settledMark = false ∨ ¬ clip) → exec (.samplePair l r) s = .next u) ∧
     (s.fe.settledMark = true → clip → s.pass.faults ≠ noFaults → exec (.samplePair l r) s = .next marked) ∧
     (s.fe.settledMark = true → clip → s.pass.faults = noFaults → exec (.samplePair l r) s = .next
       (offer .presence 0
         (presencePayload (if s.conf.site = none then .blank else .listening) s.conf.lastRefusal s.zero.left.zstate
           s.zero.right.zstate { noFaults with idleOverrange := true } s.conf.straps.count s.conf.straps.sec.toNat
           s.train.number) marked).1))

/-- A zero capture takes the settled pairs of NO_TRAIN: an unclipped pair adds its samples and one to the count, a
clipped pair discards count and sums and sets IDLE_OVERRANGE, offering a PRESENCE from an empty fault set; the 256th
pair, as ZERO_CAPTURE_COMPLETE or as a SAMPLE_PAIR, sets both zeros of each channel to the channel's sum and clears the
mark, and with a SITE held queues the PRESENCE that reports READY (R3, R15, R16, R17, R18, R172, R173). What an offer
does to the transmit queue stands in QueueOffers.
That both commands complete a capture is log entry 5; pairDone is log entry 14, the frame identity log entry 19. -/
def Obligations.ZeroCapture : Prop :=
  ∀ (l r : Sample) (s : State) (cal : Calibrate), s.strapFault = false → s.producesPair → s.train.state = .noTrain →
    s.conf.cal = some cal → s.zero.capturePending = true → s.fe.settledMark = true → s.wheel.dwell = none →
    let p : Pair := { stamp := s.tick, left := l, right := r, settled := true }
    let z := s.zero
    let u : State := { s with fe := { s.fe with pairDone := true }, pass := { s.pass with latestPair := some p } }
    let ended : ZeroTracker := { left := ⟨z.sumL + l.toInt, z.sumL + l.toInt, .ok⟩,
                                 right := ⟨z.sumR + r.toInt, z.sumR + r.toInt, .ok⟩,
                                 capturePending := false, count := 0, sumL := 0, sumR := 0 }
    let ready : QFrame :=
      { id := s.link.nextId
        kind := .presence
        seq := 0
        payload := presencePayload .ready s.conf.lastRefusal .ok .ok s.pass.faults s.conf.straps.count
          s.conf.straps.sec.toNat s.train.number }
    (clippedSample l = false → clippedSample r = false → z.count < 255 → exec (.samplePair l r) s = .next
      { u with zero := { z with count := z.count + 1, sumL := z.sumL + l.toInt, sumR := z.sumR + r.toInt } }) ∧
    (clippedSample l = true ∨ clippedSample r = true →
      let marked : State := { u with zero := { z with count := 0, sumL := 0, sumR := 0 }
                                     pass := { u.pass with faults := { s.pass.faults with idleOverrange := true } } }
      (s.pass.faults ≠ noFaults → exec (.samplePair l r) s = .next marked) ∧
      (s.pass.faults = noFaults → exec (.samplePair l r) s = .next
        (offer .presence 0
          (presencePayload (if s.conf.site = none then .calHeld else .capturing) s.conf.lastRefusal s.zero.left.zstate
            s.zero.right.zstate { noFaults with idleOverrange := true } s.conf.straps.count s.conf.straps.sec.toNat
            s.train.number) marked).1)) ∧
    (clippedSample l = false → clippedSample r = false → z.count = 255 →
      exec (.zeroCaptureComplete l r) s = exec (.samplePair l r) s ∧
      (s.conf.site = none → exec (.zeroCaptureComplete l r) s = .next { u with zero := ended }) ∧
      (s.conf.site ≠ none → exec (.zeroCaptureComplete l r) s = .next
        (offer .presence 0 ready.payload { u with zero := ended }).1) ∧
      (s.conf.site ≠ none → s.link.queue.length < 8 → exec (.zeroCaptureComplete l r) s = .next
        { u with zero := ended
                 link := { s.link with queue := s.link.queue ++ [ready], nextId := s.link.nextId + 1 } }))

/-- QUIET_TIMER_EXPIRY completes by the three paths of R8: a pending wake flag is taken as a wake event and restarts the
timer, a capture in flight restarts the timer, otherwise the dormant-entry sequence of 64 ticks starts (R8, R9). Not due,
it has no effect. With both flags pending both are taken (log entry 22).
That an expiry which is not due has no effect is log entry 3. -/
def Obligations.QuietTimerPaths : Prop :=
  ∀ (s : State) (st : Site) (e : Tick), s.strapFault = false → s.conf.site = some st → st.quiet ≠ 0 →
    s.rc.rate = .quiet → s.rc.quietTimer = some e →
    let restarted := some (s.tick + BitVec.ofNat 32 (st.quiet * 8192))
    (¬ s.reached e → exec .quietTimerExpiry s = .next s) ∧
    (s.reached e → (s.rc.detectorWake = true ∨ s.rc.linkWake = true) → exec .quietTimerExpiry s = .next
      { s with rc := { s.rc with detectorWake := false, linkWake := false, dormantEntry := none,
                                 quietTimer := restarted } }) ∧
    (s.reached e → s.rc.detectorWake = false → s.rc.linkWake = false →
      s.zero.capturePending = true → s.conf.cal ≠ none → exec .quietTimerExpiry s = .next
        { s with rc := { s.rc with quietTimer := restarted } }) ∧
    (s.reached e → s.rc.detectorWake = false → s.rc.linkWake = false →
      (s.zero.capturePending = false ∨ s.conf.cal = none) → exec .quietTimerExpiry s = .next
        { s with rc := { s.rc with quietTimer := none, dormantEntry := some (s.tick + 64) } })

/-- DORMANT_ENTRY_COMPLETE powers the Front End down and starts the refresh timer; REFRESH_TIMER_EXPIRY powers it up into
QUIET with settling of 2,048 and starts the quiet timer; SETTLING_COMPLETE ends settling; an event that is not due has no
effect (R4, R9, R10).
That an event which is not due has no effect is log entry 3; that the rate for pairs is DORMANT at once is log entry 14,
that the settled mark stays as it was at the end of settling, and that powering down ends settling, log entry 15. -/
def Obligations.FrontEndTimers : Prop :=
  (∀ (s : State) (e : Tick), s.strapFault = false → s.rc.rate = .quiet → s.rc.dormantEntry = some e →
    (¬ s.reached e → exec .dormantEntryComplete s = .next s) ∧
    (s.reached e → ∀ st, s.conf.site = some st → exec .dormantEntryComplete s = .next
      { s with fe := { s.fe with powered := false, settling := false, settleCount := 0, settledMark := false,
                                 pairRate := .dormant }
               rc := { s.rc with rate := .dormant, quietTimer := none, dormantEntry := none,
                                 refreshTimer := if st.refresh = 0 then none
                                   else some (s.tick + BitVec.ofNat 32 (st.refresh * 8192)) } })) ∧
  (∀ (s : State) (e : Tick), s.strapFault = false → s.rc.rate = .dormant → s.rc.refreshTimer = some e →
    (¬ s.reached e → exec .refreshTimerExpiry s = .next s) ∧
    (s.reached e → ∀ st, s.conf.site = some st → exec .refreshTimerExpiry s = .next
      { s with fe := { s.fe with powered := true, settling := true, settleCount := 2048, settledMark := false }
               rc := { s.rc with rate := .quiet, refreshTimer := none, dormantEntry := none,
                                 quietTimer := if st.quiet = 0 then none
                                   else some (s.tick + BitVec.ofNat 32 (st.quiet * 8192)) } })) ∧
  (∀ s : State, s.strapFault = false →
    (s.fe.settling = true → s.fe.settleCount = 0 → exec .settlingComplete s = .next
      { s with fe := { s.fe with settling := false } }) ∧
    (s.fe.settling = false ∨ s.fe.settleCount ≠ 0 → exec .settlingComplete s = .next s))

/-- WAKE_EVENT completes by the four rows of R7: ACTIVE only clears the flag, QUIET restarts the quiet timer and aborts a
dormant entry, DORMANT powers up into QUIET with settling; a flag that is not set is no wake event (R7, R9).
The last is log entry 3. -/
def Obligations.WakeEventRows : Prop :=
  ∀ (s : State) (w : WakeSource), s.strapFault = false →
    let cleared := fun rc : RateControl => match w with
      | .detector => { rc with detectorWake := false }
      | .link => { rc with linkWake := false }
    let isSet := match w with
      | .detector => s.rc.detectorWake
      | .link => s.rc.linkWake
    let timer := match s.conf.site with
      | none => none
      | some st => if st.quiet = 0 then none else some (s.tick + BitVec.ofNat 32 (st.quiet * 8192))
    (isSet = false → exec (.wakeEvent w) s = .next s) ∧
    (isSet = true → s.rc.rate = .active → exec (.wakeEvent w) s = .next { s with rc := cleared s.rc }) ∧
    (isSet = true → s.rc.rate = .quiet → exec (.wakeEvent w) s = .next
      { s with rc := { cleared s.rc with dormantEntry := none, quietTimer := timer } }) ∧
    (isSet = true → s.rc.rate = .dormant → exec (.wakeEvent w) s = .next
      { s with fe := { s.fe with powered := true, settling := true, settleCount := 2048, settledMark := false }
               rc := { cleared s.rc with rate := .quiet, refreshTimer := none, dormantEntry := none,
                                         quietTimer := timer } })

/-! ### The Wheel Timer -/

/-- A report inside its detector's hold is ignored whatever its direction, DEBOUNCE_HOLD_END clears a hold that has
ended and no other; a report with its hold clear, or ended and still set, is accepted: it sets its own hold alone, until
the end of tick t + T - 1, T being 8 without a SITE, and the detector wake flag, and without a SITE nothing else (R7,
R22, R23).
That a hold which has not ended stays is log entry 3. -/
def Obligations.DebounceHolds : Prop :=
  (∀ (s : State) (d : Detector) (dir : Direction) (e : Tick), s.strapFault = false → s.wheel.hold d = some e →
     let later := 1 ≤ (s.tick - e).toNat ∧ (s.tick - e).toNat ≤ 2147483647
     (¬ later → exec (.detectorEvent d dir) s = .next s ∧ exec (.debounceHoldEnd d) s = .next s) ∧
     (later → exec (.debounceHoldEnd d) s = .next
       { s with wheel := match d with
         | .a => { s.wheel with holdA := none }
         | .b => { s.wheel with holdB := none } })) ∧
  (∀ (s t : State) (d : Detector) (dir : Direction), s.strapFault = false → s.holdOver d →
     exec (.detectorEvent d dir) s = .next t →
     t.wheel.hold d = some (s.tick + BitVec.ofNat 32 ((s.conf.site.map Site.debounce).getD 8 - 1)) ∧
     t.rc.detectorWake = true ∧
     (∀ o, o ≠ d → t.wheel.hold o = s.wheel.hold o) ∧
     (s.conf.site = none → exec (.detectorEvent d dir) s = .next
       { s with rc := { s.rc with detectorWake := true }
                wheel := match d with
                  | .a => { s.wheel with holdA := some (s.tick + 7) }
                  | .b => { s.wheel with holdB := some (s.tick + 7) } }))

/-- Lengths the station computes: the speed of a closed dwell (R32) over an interval held at 2,147,483,647 (R31), the
spacing from the previous axle (R33), a deadline of one crossing for each awaited position and 410 ticks, at most 245,760
(R96), the close timer, 16,384 to 491,520 (R160).
The mark of an interval that has reached its hold is log entry 16. -/
def Obligations.MeasuredLengths : Prop :=
  ((∀ len : Nat, dwellSpeed len 0 = 65535) ∧
   (∀ len d : Nat, 0 < d → dwellSpeed len d = min (len * 8192 / (10 * d)) 65535) ∧
   (∀ (now : Tick) (d : Dwell), dwellLength now d =
     (if d.aged = true then 2147483647 else min (now - d.entry).toNat 2147483647)) ∧
   (∀ (d : Dwell) (v : Nat), axleSpacing d v none = none) ∧
   (∀ (d : Dwell) (v : Nat) (p : PrevAxle), p.speed = none → axleSpacing d v (some p) = none) ∧
   (∀ (d : Dwell) (v u : Nat) (p : PrevAxle), p.speed = some u → axleSpacing d v (some p) =
     some (min ((if d.prevAged = true then 2147483647 else min (d.entry - p.entry).toNat 2147483647) *
       ((v + u) / 2) / 8192) 65535))) ∧
  ((∀ len r v : Nat, 0 < v → deadlineTicks len r (some v) =
     (if r * (len * 8192 / (10 * v)) + 410 ≤ 245760 then r * (len * 8192 / (10 * v)) + 410 else 245760)) ∧
   (∀ len r : Nat, deadlineTicks len r (some 0) = 245760 ∧ deadlineTicks len r none = 245760) ∧
   (∀ b3 v : Nat, 0 < v → closeTicks b3 (some v) = max 16384 (min (b3 * 8192 / v) 491520)) ∧
   (∀ b3 : Nat, closeTicks b3 (some 0) = 491520 ∧ closeTicks b3 none = 491520) ∧
   (∀ (s : State) (st : Site), s.conf.site = some st →
     restartClose s = { s with train := { s.train with closeTimer := some (s.tick + BitVec.ofNat 32
     (closeTicks st.b3
       (match s.table.latestSpeed with
        | some v => v
        | none => s.pass.latestSpeed))) } }))

/-- DETECTOR_EVENT completes in NO_TRAIN by opening a train: RUNNING in the event's direction, CONTRIBUTING when READY and
NOT_READY otherwise, the train number raised, counters and records of the last train cleared, ACTIVE asked for (a DORMANT
station powers up with settling of 2,048), a TRAIN-OPEN offered and kept as the own open frame if it enters the queue, the
close timer at its greatest length; the entry detector's event is then the entry of axle 1, the exit detector's an exit
with no dwell open (R4, R6, R16, R22, R23, R24, R25, R38, R39, R90, R142, R156, R157, R160, R166). What an offer does to
the transmit queue stands in QueueOffers.
The frame identity is log entry 19, the aged marks log entry 16. -/
def Obligations.DetectorOpensTrain : Prop :=
  ∀ (s : State) (st : Site) (d : Detector) (dir : Direction), s.strapFault = false → s.holdOver d →
    s.conf.site = some st → s.train.state = .noTrain → s.rc.rate ≠ .active → s.wheel.dwell = none →
    (∀ i : Fin 16, s.table.slots[i] = .free) →
    let entry := (dir = .up ∧ d = .a) ∨ (dir = .down ∧ d = .b)
    let num := s.train.number + 1
    let offered := offer .train (BitVec.ofNat 6 num.toNat) [1, if dir = .up then 0 else 1, num, 0, 0, 0, 0, 0] s
    ∃ t, exec (.detectorEvent d dir) s = .next t ∧
      t.train = { state := .running, dir := dir,
                  standing := if s.conf.cal.isSome = true ∧ s.zero.capturePending = false then .contributing
                    else .notReady,
                  slips := 0, closeTimer := some (s.tick + 491520), ownClose := none, peerClose := none,
                  openFrame := offered.2, closeFrame := none, number := num } ∧
      t.link = offered.1.link ∧
      (s.link.queue.length < 8 → offered.2 = some s.link.nextId ∧ t.link = { s.link with
        queue := s.link.queue ++ [⟨s.link.nextId, .train, BitVec.ofNat 6 num.toNat,
          [1, if dir = .up then 0 else 1, num, 0, 0, 0, 0, 0]⟩]
        nextId := s.link.nextId + 1 }) ∧
      t.rc = { s.rc with rate := .active, quietTimer := none, dormantEntry := none, detectorWake := true
                         refreshTimer := if s.rc.rate = .dormant then none else s.rc.refreshTimer } ∧
      t.fe = (if s.rc.rate = .dormant then
          { s.fe with powered := true, settling := true, settleCount := 2048, settledMark := false }
        else s.fe) ∧
      t.zero = { s.zero with count := 0, sumL := 0, sumR := 0 } ∧
      t.table = { s.table with nextExpected := 1, highestOpened := 0, handedCount := 0, latestSpeed := none } ∧
      t.asm = { s.asm with counter := 0, fullClose := false } ∧ t.pub = [] ∧
      t.wheel.hold d = some (s.tick + BitVec.ofNat 32 (st.debounce - 1)) ∧ t.wheel.prev = none ∧
      (∀ o, o ≠ d → t.wheel.hold o = s.wheel.hold o) ∧
      (entry → t.wheel.counter = 1 ∧
        t.wheel.dwell = some { ordinal := 1, entry := s.tick, aged := false, prevAged := false } ∧
        ∃ n, t.pass.snapshot = some n ∧ n.ordinal = 1 ∧ n.entry = s.tick ∧ n.zL = s.zero.left.z256 ∧
          n.zR = s.zero.right.z256 ∧ n.zstateL = s.zero.left.zstate ∧ n.zstateR = s.zero.right.zstate ∧
          n.weighing = s.conf.cal.map (fun c => ⟨c.spanL, c.spanR, c.rounding⟩) ∧
          t.pass.buffer = (match s.conf.cal, s.pass.latestPair with
            | some _, some p => if p.stamp = s.tick then [p] else []
            | _, _ => [])) ∧
      (¬ entry → t.wheel.counter = 0 ∧ t.wheel.dwell = none ∧ t.pass.snapshot = s.pass.snapshot ∧
        t.pass.buffer = s.pass.buffer) ∧
      t.pass.latestSpeed = none ∧ t.pass.faults = s.pass.faults ∧ t.pass.latestPair = s.pass.latestPair ∧
      t.roster = s.roster ∧ t.conf = s.conf ∧ t.tick = s.tick ∧ t.pending = s.pending

/-- DETECTOR_EVENT in RUNNING, an entry with the counter below its ceiling: the counter rises by one and a dwell opens
with the frozen zeros and zero states; a dwell still open is first broken into a partial with NO_SAMPLES and BROKEN_DWELL
that leaves the previous-axle record with an absent speed and goes nowhere outside CONTRIBUTING; at CONTRIBUTING its AXLE
frame is offered to the transmit queue and the Consensus Table takes it as the own contribution before the next dwell
opens; the hand-over chain follows the new counter, and does nothing with no DECIDED entry (R25, R29, R34, R38, R39, R41,
R52, R53, R55, R56, R57, R160). What an offer does to the transmit queue stands in QueueOffers.
The aged marks are log entry 16; that the frame is queued before the contribution is stored is log entry 9, its identity
log entry 19. -/
def Obligations.DetectorEntry : Prop :=
  (∀ (s : State) (st : Site) (d : Detector) (dir : Direction), s.strapFault = false → s.holdOver d →
    s.conf.site = some st → s.train.state = .running → dir = s.train.dir →
    ((dir = .up ∧ d = .a) ∨ (dir = .down ∧ d = .b)) → s.wheel.counter < 65535 →
    let u := restartClose s
    let n := s.wheel.counter + 1
    let held := fun w : WheelTimer => w.setHold d (some (s.tick + BitVec.ofNat 32 (st.debounce - 1)))
    let snap : Snapshot :=
      { ordinal := n, entry := s.tick, zL := s.zero.left.z256, zR := s.zero.right.z256,
        zstateL := s.zero.left.zstate, zstateR := s.zero.right.zstate,
        weighing := s.conf.cal.map (fun c => ⟨c.spanL, c.spanR, c.rounding⟩) }
    let first := match s.conf.cal, s.pass.latestPair with
      | some _, some p => if p.stamp = s.tick then [p] else []
      | _, _ => []
    (s.wheel.dwell = none → exec (.detectorEvent d dir) s = .next (handChain
      { u with rc := { s.rc with detectorWake := true }
               wheel := held { s.wheel with
                 counter := n
                 dwell := some ⟨n, s.tick, false, (s.wheel.prev.map PrevAxle.aged).getD false⟩ }
               pass := { s.pass with buffer := first, snapshot := some snap } })) ∧
    (∀ (o : Dwell) (m : Snapshot), s.wheel.dwell = some o → s.pass.snapshot = some m →
      let q : Partial :=
        { ordinal := m.ordinal, dir := s.train.dir, loads := none, speed := none, spacing := none,
          flags := flagWhen true .noSamples ||| flagWhen true .brokenDwell |||
            zeroFlags m.zstateL m.zstateR ||| flagWhen (s.pass.faults != noFaults) .stationFault }
      let broken : State :=
        { u with rc := { s.rc with detectorWake := true }
                 wheel := held { s.wheel with dwell := none, prev := some ⟨o.entry, none, o.aged⟩ }
                 pass := { s.pass with buffer := [], snapshot := none, faults := noFaults, latestSpeed := none } }
      let entered := fun t : State => handChain
        { t with wheel := { t.wheel with counter := n, dwell := some ⟨n, s.tick, false, o.aged⟩ }
                 pass := { t.pass with buffer := first, snapshot := some snap } }
      (s.train.standing ≠ .contributing → exec (.detectorEvent d dir) s = .next (entered broken)) ∧
      (s.train.standing = .contributing →
        let sent := (offer .axle (BitVec.ofNat 6 m.ordinal) (axlePayload q) broken).1
        exec (.detectorEvent d dir) s = .next (entered (takeContribution s.own q sent)) ∧
        (s.link.queue.length < 8 → sent = { broken with link := { s.link with
          queue := s.link.queue ++ [⟨s.link.nextId, .axle, BitVec.ofNat 6 m.ordinal, axlePayload q⟩]
          nextId := s.link.nextId + 1 } })))) ∧
  (∀ t : State, (∀ (i : Fin 16) (c : Collecting) (a : ConsensusAxle), t.table.slots[i] ≠ .decided c a) →
    handChain t = t)

/-- DETECTOR_EVENT in RUNNING, an exit: with no dwell open only the hold, the wake flag and the close timer change; an open
dwell closes, its partial takes the fault set and sizes the latest partial speed, the previous-axle record takes entry
tick and speed, and the partial goes nowhere outside CONTRIBUTING; at CONTRIBUTING its AXLE frame is offered to the
transmit queue, and the Consensus Table takes it as the own contribution (R27, R28, R31, R32, R33, R34, R41, R52, R54,
R55, R56, R57). What an offer does to the transmit queue stands in QueueOffers.
That the frame is queued before the contribution is stored is log entry 9; its identity is log entry 19; the aged marks
are log entry 16. -/
def Obligations.DetectorExit : Prop :=
  ∀ (s : State) (st : Site) (d : Detector) (dir : Direction), s.strapFault = false → s.holdOver d →
    s.conf.site = some st → s.train.state = .running → dir = s.train.dir →
    ((dir = .up ∧ d = .b) ∨ (dir = .down ∧ d = .a)) →
    let u := restartClose s
    let held := fun w : WheelTimer => w.setHold d (some (s.tick + BitVec.ofNat 32 (st.debounce - 1)))
    (s.wheel.dwell = none → exec (.detectorEvent d dir) s = .next
      { u with rc := { s.rc with detectorWake := true }, wheel := held s.wheel }) ∧
    (∀ (o : Dwell) (m : Snapshot), s.wheel.dwell = some o → s.pass.snapshot = some m →
      let len := dwellLength s.tick o
      let v := dwellSpeed s.conf.straps.length len
      let q := closedPartial (some st) m s.pass.buffer dir len v (axleSpacing o v s.wheel.prev)
        (s.pass.faults != noFaults)
      let t : State :=
        { u with rc := { s.rc with detectorWake := true }
                 wheel := held { s.wheel with dwell := none, prev := some ⟨o.entry, some v, o.aged⟩ }
                 pass := { s.pass with buffer := [], snapshot := none, faults := noFaults, latestSpeed := some v } }
      (s.train.standing ≠ .contributing → exec (.detectorEvent d dir) s = .next t) ∧
      (s.train.standing = .contributing →
        let sent := (offer .axle (BitVec.ofNat 6 m.ordinal) (axlePayload q) t).1
        exec (.detectorEvent d dir) s = .next (takeContribution s.own q sent) ∧
        (s.link.queue.length < 8 → sent = { t with link := { s.link with
          queue := s.link.queue ++ [⟨s.link.nextId, .axle, BitVec.ofNat 6 m.ordinal, axlePayload q⟩]
          nextId := s.link.nextId + 1 } })))

/-! ### Trains -/

/-- What an abandonment leaves at the event of its cause: ABANDONED, the counter and the previous-axle record cleared, the
dwell discarded without a partial, every entry FREE, no vehicle open, no AXLE frame waiting outside an attempt, the close
timer started, the rate as it was. The cut at reversal ordinal r hands every ordinal from next_expected to the lower of
r - 1 and the highest known ordinal, as forced steps, and the vehicle still open then closes with REVERSED (R36, R41, R59,
R104, R105, R135, R163, R164).
That no hand-over chain runs between the forced steps is log entry 12; that the close timer reads the speed the cut leaves
is log entry 13. -/
def Obligations.AbandonmentLeaves : Prop :=
  ∀ (r : Nat) (s : State),
    let t := enterAbandoned r s
    let known := max s.table.highestOpened (if s.train.standing = .contributing then s.wheel.counter else 0)
    let last := min (r - 1) known
    let cut := flushTo last (cancelAxles
      { s with wheel := { s.wheel with dwell := none, counter := 0, prev := none }
               pass := { s.pass with buffer := [], snapshot := none } })
    let closed := closeVehicle { reversed := true }
      { cut with table := { cut.table with slots := Vector.replicate 16 .free } }
    t = restartClose { closed with train := { closed.train with state := .abandoned } } ∧
    t.table.nextExpected = max s.table.nextExpected (last + 1) ∧
    (s.table.handedCount ≤ 65535 → t.table.handedCount =
      min (s.table.handedCount + (last + 1 - s.table.nextExpected)) 65535) ∧
    t.train.state = .abandoned ∧ t.wheel.counter = 0 ∧ t.wheel.prev = none ∧ t.wheel.dwell = none ∧
    t.wheel.holdA = s.wheel.holdA ∧ t.wheel.holdB = s.wheel.holdB ∧
    t.pass.snapshot = none ∧ t.pass.buffer = [] ∧ t.pass.faults = s.pass.faults ∧
    (∀ i : Fin 16, t.table.slots[i] = .free) ∧ t.asm.vehicle = none ∧
    (∀ f ∈ t.link.queue, f.kind = .axle → s.link.attempt = some f.id) ∧
    t.train.closeTimer.isSome = true ∧ t.train.dir = s.train.dir ∧ t.train.number = s.train.number ∧
    t.train.ownClose = s.train.ownClose ∧ t.train.peerClose = s.train.peerClose ∧
    t.rc = s.rc ∧ t.fe = s.fe ∧ t.zero = s.zero ∧ t.conf = s.conf ∧ t.tick = s.tick ∧
    (∃ l, cancelAxles s = { s with link := l }) ∧
    ((s.link.queue.map QFrame.id).Nodup → (cancelAxles s).link.queue =
      s.link.queue.filter fun f => f.kind != .axle || s.link.attempt == some f.id)

/-- The four causes of an abandonment and the reversal ordinal of each: an own reversal and a peer's TRAIN-OPEN of the
opposite direction at the own counter plus one held at 65,535, the ceiling entry at 65,535, a peer's TRAIN-REVERSAL at
the ordinal it carries; the first three offer a TRAIN-REVERSAL to the transmit queue (R26, R35, R62, R158, R163), where
QueueOffers says what becomes of it. That it is offered before the steps of R164 is log entry 10.
That a frame found in IDLE brings its own start mark is log entry 6, the order in which the Roster takes it log entry 8,
the identity of the TRAIN-REVERSAL log entry 19. -/
def Obligations.AbandonmentCauses : Prop :=
  (∀ (s : State) (st : Site) (d : Detector) (dir : Direction), s.strapFault = false → s.holdOver d →
    s.conf.site = some st → s.train.state = .running →
    let held := s.wheel.setHold d (some (s.tick + BitVec.ofNat 32 (st.debounce - 1)))
    let u : State := { restartClose s with rc := { s.rc with detectorWake := true }, wheel := held }
    (dir ≠ s.train.dir → exec (.detectorEvent d dir) s = .next
      (enterAbandoned (min (s.wheel.counter + 1) 65535) (offerReversal (min (s.wheel.counter + 1) 65535) u))) ∧
    (dir = s.train.dir → ((dir = .up ∧ d = .a) ∨ (dir = .down ∧ d = .b)) → 65535 ≤ s.wheel.counter →
      exec (.detectorEvent d dir) s = .next (enterAbandoned 65535 (offerReversal 65535 u)))) ∧
  (∀ (s : State) (f : RxFrame), s.strapFault = false → s.listening → s.accepts .train f → s.conf.site ≠ none →
    s.train.state = .running →
    (get1 f.payload 0 = 2 → exec (.trainReversalFrame f) s = .next
      (if f.rosterLast = true then rosterTake .train f (enterAbandoned (get2 f.payload 3) s.delivered)
       else enterAbandoned (get2 f.payload 3) (rosterTake .train f s.delivered))) ∧
    (get1 f.payload 0 = 1 → dirOf (bitOf (get1 f.payload 1) 0) ≠ s.train.dir →
      let r := min (s.wheel.counter + 1) 65535
      exec (.trainOpenFrame f) s = .next
        (if f.rosterLast = true then rosterTake .train f (enterAbandoned r (offerReversal r s.delivered))
         else enterAbandoned r (offerReversal r (rosterTake .train f s.delivered))))) ∧
  (∀ (r : Nat) (s : State),
    let payload : List Byte :=
      [2, if s.train.dir = .up then 0 else 1, s.train.number, BitVec.ofNat 8 (r / 256), BitVec.ofNat 8 r, 0, 0, 0]
    offerReversal r s = (offer .train (BitVec.ofNat 6 s.train.number.toNat) payload s).1 ∧
    (s.link.queue.length < 8 → offerReversal r s =
      { s with link := { s.link with
        queue := s.link.queue ++ [⟨s.link.nextId, .train, BitVec.ofNat 6 s.train.number.toNat, payload⟩]
        nextId := s.link.nextId + 1 } }))

/-- CLOSE_TIMER_EXPIRY completes by the close of the train: NO_TRAIN, the close record of what the flush left, no dwell, no
vehicle, no AXLE frame waiting, counters cleared, the Roster released after the flush, DESYNC peers LIVE with misses and
slips 0 and every other entry with slips 0 alone changed, QUIET asked for, which in ACTIVE starts the quiet timer with the
held SITE's quiet time and changes nothing else of the Rate Controller. In RUNNING the flush hands every
ordinal up to the highest known one as forced steps and the vehicle left open closes with LAST; in ABANDONED nothing is
handed. A peer's TRAIN-CLOSE that matches the close record withholds the own one, without one a TRAIN-CLOSE with the
direction, the train number, both counts and the close flags is offered to the transmit queue and is the own close frame
if it enters; a timer that is not due has no effect (R6, R8, R36, R59, R85, R102, R104, R106, R134, R161, R162, R164,
R166, R177). What an offer does to the transmit queue stands in QueueOffers.
That a timer which is not due has no effect is log entry 3, that no hand-over chain runs between the forced steps log
entry 12; the frame's identity is log entry 19. -/
def Obligations.CloseTimerCloses : Prop :=
  ∀ (s : State) (e : Tick), s.strapFault = false → s.train.closeTimer = some e → s.train.state ≠ .noTrain →
    let known := max s.table.highestOpened (if s.train.standing = .contributing then s.wheel.counter else 0)
    let ended := cancelAxles { s with wheel := { s.wheel with dwell := none }
                                      pass := { s.pass with buffer := [], snapshot := none } }
    let w := if s.train.state = .running then closeVehicle { last := true } (flushTo known ended) else ended
    let matched := ∃ f, s.train.peerClose = some f ∧ f.ordinal = w.table.handedCount ∧ f.vehicles = w.asm.counter
    let own : CloseRecord :=
      { handed := w.table.handedCount, vehicles := w.asm.counter, reversed := s.train.state == .abandoned
        desync := w.train.standing == .desync }
    let payload : List Byte :=
      [3, if s.train.dir = .up then 0 else 1, s.train.number,
        BitVec.ofNat 8 (w.table.handedCount / 256), BitVec.ofNat 8 w.table.handedCount,
        BitVec.ofNat 8 (w.asm.counter / 256), BitVec.ofNat 8 w.asm.counter,
        (if s.train.state = .abandoned then 1 else 0) + (if w.train.standing = .desync then 2 else 0)]
    let offered := offer .train (BitVec.ofNat 6 s.train.number.toNat) payload w
    (¬ s.reached e → exec .closeTimerExpiry s = .next s) ∧
    (s.reached e → ∃ t, exec .closeTimerExpiry s = .next t ∧
      t.train.number = s.train.number ∧ t.train.dir = s.train.dir ∧ t.train.peerClose = s.train.peerClose ∧
      t.table = w.table ∧ t.asm = w.asm ∧ t.roster = w.roster.map releaseEntry ∧
      (matched → t.link = w.link ∧ t.pub = w.pub ∧ t.train = { w.train with
        state := .noTrain, closeTimer := none, ownClose := some own }) ∧
      (¬ matched → t.link = offered.1.link ∧ t.pub = offered.1.pub ∧ t.train = { w.train with
        state := .noTrain, closeTimer := none, ownClose := some own
        openFrame := offered.1.train.openFrame, closeFrame := offered.2 }) ∧
      (w.link.queue.length < 8 → offered = ({ w with link := { w.link with
        queue := w.link.queue ++ [⟨w.link.nextId, .train, BitVec.ofNat 6 s.train.number.toNat, payload⟩]
        nextId := w.link.nextId + 1 } }, some w.link.nextId)) ∧
      (s.train.state = .running → t.table.nextExpected = max s.table.nextExpected (known + 1) ∧
        (s.table.handedCount ≤ 65535 → t.table.handedCount =
          min (s.table.handedCount + (known + 1 - s.table.nextExpected)) 65535)) ∧
      t.wheel = { s.wheel with counter := 0, prev := none, dwell := none } ∧
      t.pass = { s.pass with buffer := [], snapshot := none } ∧
      (s.train.state = .running → t.asm.vehicle = none) ∧
      (∀ f ∈ t.link.queue, f.kind = .axle → s.link.attempt = some f.id) ∧
      (∀ p : Pos, t.roster[p] =
        (if (w.roster[p]).state = .desync then { w.roster[p] with state := .live, misses := 0, slips := 0 }
         else { w.roster[p] with slips := 0 })) ∧
      (s.rc.rate = .active → t.rc = { s.rc with
        rate := .quiet
        quietTimer := match s.conf.site with
          | none => none
          | some st => if st.quiet = 0 then none else some (s.tick + BitVec.ofNat 32 (st.quiet * 8192)) }) ∧
      (s.rc.rate ≠ .active → t.rc = s.rc) ∧
      (s.train.state = .abandoned → t.table = s.table ∧ t.asm = s.asm ∧ w.roster = s.roster) ∧
      t.fe = s.fe ∧ t.zero = s.zero ∧ t.conf = s.conf ∧ t.tick = s.tick ∧ t.pending = s.pending)

/-- DEADLINE_EXPIRY completes: the OPEN entry is decided with TIMED_OUT and becomes DECIDED with its consensus axle, the
Roster takes the reports of every peer, the Train Sequencer the own slip result, and the hand-over chain follows, whatever
else the table holds; the entry waits in DECIDED while a lower ordinal is still collected, and is handed over at once at
next_expected; a deadline that is not due has no effect (R82, R84, R98, R99, R100, R101, R111, R112). The two clauses after
the general one take an entry without a slip result of the own position, the last of them one that is the only entry of the
table. What the chain and the own slip result do stands in HandOvers.
That a deadline which is not due has no effect is log entry 3, that the AXLE frames are cancelled before the hand-over log
entry 32. -/
def Obligations.DeadlineDecides : Prop :=
  ∀ (s : State) (i : Fin 16) (c : Collecting) (e : Tick), s.strapFault = false → s.table.slots[i] = .opened c e →
    let a := decideAxle s.decisionSettings c .deadline
    let roster := Vector.ofFn fun p : Pos => reportPeer s.own c p s.roster[p]
    a.flags.timedOut = true ∧
    (c.contribs[s.own] = none → ownSlip s.own c = none) ∧
    (∀ q, c.contribs[s.own] = some q → ownSlip s.own c = slipResult c.present ⟨s.own, q⟩) ∧
    (¬ s.reached e → exec (.deadlineExpiry i) s = .next s) ∧
    (s.reached e → exec (.deadlineExpiry i) s = .next (handChain (takeOwnSlip (ownSlip s.own c)
      { s with table := { s.table with slots := s.table.slots.set i (.decided c a), latestSpeed := some a.speed }
               roster := roster }))) ∧
    (s.reached e → ownSlip s.own c = none →
      (∃ (j : Fin 16) (c' : Collecting) (e' : Tick),
        slotOf s.table.slots s.table.nextExpected = some j ∧ j ≠ i ∧
        s.table.slots[j] = .opened c' e') →
      exec (.deadlineExpiry i) s = .next
        { s with table := { s.table with slots := s.table.slots.set i (.decided c a), latestSpeed := some a.speed }
                 roster := roster }) ∧
    (s.reached e → ownSlip s.own c = none → c.ordinal = s.table.nextExpected →
      (∀ j : Fin 16, j ≠ i → s.table.slots[j] = .free) →
      exec (.deadlineExpiry i) s = .next
        (takeAxle a { s with table :=
                        { s.table with slots := Vector.replicate 16 .free, latestSpeed := some a.speed,
                                       nextExpected := s.table.nextExpected + 1,
                                       handedCount := min (s.table.handedCount + 1) 65535 }
                             roster := roster }))

/-! ### The track link -/

/-- ATTEMPT_START, OTHER_PARTY_START_MARK, LABEL_SENT_UNBEATEN, ARBITRATION_LOST and FRAME_BROKEN complete: the head of the
queue is the oldest frame of the lowest kind, a lost arbitration costs the frame nothing unless its cancellation is
carried, a broken frame leaves IDLE (R64, R65, R67, R68, R73, R75). An event that the link state excludes has no effect
(log entry 3); the counts in operands are log entry 7, the early dominant bit log entry 29. -/
def Obligations.LinkStates : Prop :=
  ∀ s : State, s.strapFault = false →
    (∀ (quiet : Nat) (pre post : List QFrame) (f : QFrame), s.link.state = .idle → 11 ≤ s.link.recessive + quiet →
      s.link.queue = pre ++ f :: post → (∀ g ∈ pre, kindValue f.kind < kindValue g.kind) →
      (∀ g ∈ post, kindValue f.kind ≤ kindValue g.kind) →
      exec (.attemptStart quiet) s = .next
        { s with link := { s.link with
            state := .contending, recessive := 0, attempt := some f.id, cancelled := false, counted := some f.id
            attempts := if s.link.counted = some f.id then s.link.attempts else 0 } }) ∧
    (∀ quiet : Nat, s.link.state = .idle → (s.link.recessive + quiet < 11 ∨ s.link.queue = []) →
      exec (.attemptStart quiet) s = .next
        { s with link := { s.link with recessive := min (s.link.recessive + quiet) 11 } }) ∧
    (∀ quiet : Nat, s.link.state = .idle → exec (.otherPartyStartMark quiet) s = .next
      { s with link := { s.link with
          state := if 11 ≤ s.link.recessive + quiet then .receiving else .idle, recessive := 0 } }) ∧
    (s.link.state = .contending → exec .labelSentUnbeaten s = .next { s with link := { s.link with state := .sending } }) ∧
    (s.link.state = .contending → s.link.cancelled = false → exec .arbitrationLost s = .next
      { s with link := { s.link with state := .receiving, recessive := 0, attempt := none, cancelled := false } }) ∧
    (∀ id : Nat, s.link.state = .contending → s.link.attempt = some id → s.link.cancelled = true →
      exec .arbitrationLost s = .next
        { s with link := { s.link with
            state := .receiving, recessive := 0, attempt := none, cancelled := false
            queue := s.link.queue.filter (fun f => f.id != id)
            counted := if s.link.counted = some id then none else s.link.counted
            attempts := if s.link.counted = some id then 0 else s.link.attempts } }) ∧
    (∀ (cause : BreakCause) (run : Nat), s.link.state = .receiving → exec (.frameBroken cause run) s = .next
      { s with link := { s.link with state := .idle, recessive := min run 11 } }) ∧
    (s.link.state ≠ .idle → ∀ quiet : Nat,
      exec (.attemptStart quiet) s = .next s ∧ exec (.otherPartyStartMark quiet) s = .next s) ∧
    (s.link.state ≠ .contending → exec .labelSentUnbeaten s = .next s ∧ exec .arbitrationLost s = .next s) ∧
    (s.link.state ≠ .receiving → ∀ (cause : BreakCause) (run : Nat), exec (.frameBroken cause run) s = .next s)

/-- SENDER_ERROR completes: IDLE and the attempt failed; below the eighth the frame stays and the count rises by one, the
eighth discards the frame with a DROPPED notice, LINK_FAILURE and, from an empty fault set, a PRESENCE; a frame whose
cancellation is carried is removed and the attempt not counted (R17, R18, R66, R67, R75, R76).
That a station which does not send has no sender error is log entry 3, the run in the operand log entry 7, the frame
identity log entry 19. -/
def Obligations.SenderErrors : Prop :=
  (∀ (s : State) (run : Nat), s.strapFault = false → s.link.state ≠ .contending → s.link.state ≠ .sending →
    exec (.senderError run) s = .next s) ∧
  (∀ (s : State) (run : Nat) (pre post : List QFrame) (f : QFrame), s.strapFault = false →
    s.link.queue = pre ++ f :: post → (∀ g ∈ pre ++ post, g.id ≠ f.id) → s.link.attempt = some f.id →
    let l : LinkControl := { s.link with state := .idle, recessive := min run 11, attempt := none, cancelled := false }
    let sends := s.link.state = .contending ∨ s.link.state = .sending
    (sends → s.link.cancelled = false → s.link.attempts < 7 → exec (.senderError run) s = .next
      { s with link := { l with attempts := s.link.attempts + 1 } }) ∧
    (sends → s.link.cancelled = true → exec (.senderError run) s = .next
      { s with link := { l with queue := pre ++ post
                                counted := if s.link.counted = some f.id then none else s.link.counted
                                attempts := if s.link.counted = some f.id then 0 else s.link.attempts } }) ∧
    (sends → s.link.cancelled = false → 7 ≤ s.link.attempts → s.link.queue.length ≤ 8 →
      ∃ t, exec (.senderError run) s = .next t ∧
        t.pass = { s.pass with faults := { s.pass.faults with linkFailure := true } } ∧
        t.train = { s.train with
          openFrame := if f.kind = .train ∧ s.train.openFrame = some f.id then none else s.train.openFrame
          closeFrame := if f.kind = .train ∧ s.train.closeFrame = some f.id then none else s.train.closeFrame } ∧
        t.pub = (if f.kind = .vehicle ∨ f.kind = .dissent then s.pub.map (noticeEntry f.id .dropped) else s.pub) ∧
        (s.pass.faults ≠ noFaults →
          t.link = { l with queue := pre ++ post, counted := none, attempts := 0 }) ∧
        (s.pass.faults = noFaults → t.link =
          { l with queue := pre ++ post ++ [⟨s.link.nextId, .presence, 0,
                     presencePayload s.configState s.conf.lastRefusal s.zero.left.zstate s.zero.right.zstate
                       { noFaults with linkFailure := true } s.conf.straps.count s.conf.straps.sec.toNat
                       s.train.number⟩]
                   counted := none
                   attempts := 0
                   nextId := s.link.nextId + 1 }) ∧
        t.rc = s.rc ∧ t.fe = s.fe ∧ t.zero = s.zero ∧ t.wheel = s.wheel ∧ t.roster = s.roster ∧ t.table = s.table ∧
        t.asm = s.asm ∧ t.conf = s.conf ∧ t.tick = s.tick ∧ t.pending = s.pending))

/-- ATTEMPT_COMPLETE completes: IDLE, the frame leaves the queue, the count ends, the owner is told SENT; and what the two
notices do to an entry of the Publication Table (R69, R76, R150, R151, R155, R166).
That an attempt which is not SENDING cannot complete is log entry 3, the frame identities are log entry 19. -/
def Obligations.AttemptCompletes : Prop :=
  (∀ s : State, s.strapFault = false → s.link.state ≠ .sending → exec .attemptComplete s = .next s) ∧
  (∀ (s : State) (pre post : List QFrame) (f : QFrame), s.strapFault = false → s.link.queue = pre ++ f :: post →
    (∀ g ∈ pre ++ post, g.id ≠ f.id) → s.link.attempt = some f.id →
    (s.link.state = .sending → exec .attemptComplete s = .next
      { s with
        link := { s.link with state := .idle, recessive := 0, attempt := none, cancelled := false, queue := pre ++ post
                              counted := none
                              attempts := 0 }
        train := { s.train with
          openFrame := if f.kind = .train ∧ s.train.openFrame = some f.id then none else s.train.openFrame
          closeFrame := if f.kind = .train ∧ s.train.closeFrame = some f.id then none else s.train.closeFrame }
        pub := if f.kind = .vehicle ∨ f.kind = .dissent then s.pub.map (noticeEntry f.id .sent) else s.pub })) ∧
  (∀ (id v : Nat) (own : VehicleRecord) (peer : PeerRecord),
    noticeEntry id .sent ⟨v, .queued own id⟩ = ⟨v, .sent own⟩ ∧
    noticeEntry id .dropped ⟨v, .queued own id⟩ = ⟨v, .dropped own none⟩ ∧
    noticeEntry id .sent ⟨v, .dissentQueued own peer id⟩ = ⟨v, .dissentSent own peer⟩ ∧
    noticeEntry id .dropped ⟨v, .dissentQueued own peer id⟩ = ⟨v, .dropped own (some peer)⟩) ∧
  (∀ (id : Nat) (n : Notice) (e : PubEntry), (∀ own, e.state ≠ .queued own id) →
    (∀ own peer, e.state ≠ .dissentQueued own peer id) → noticeEntry id n e = e)

/-- A frame offered to the transmit queue enters a queue with room at its young end; at a full queue it displaces the
youngest frame of the highest kind that is above its own and not in attempt, whose owner is told DROPPED, and is refused
otherwise. A cancelled frame that waits is removed without notice, one in attempt carries its cancellation, one no longer
queued changes nothing (R73, R74, R75, R76).
The identities of frames are log entry 19. -/
def Obligations.QueueOffers : Prop :=
  ∀ (s : State) (k : Kind) (seq : BitVec 6) (payload : List Byte),
    let new : QFrame := ⟨s.link.nextId, k, seq, payload⟩
    (s.link.queue.length < 8 → offer k seq payload s =
      ({ s with link := { s.link with queue := s.link.queue ++ [new], nextId := s.link.nextId + 1 } },
        some s.link.nextId)) ∧
    (8 ≤ s.link.queue.length → (∀ g ∈ s.link.queue, s.link.attempt ≠ some g.id → kindValue g.kind ≤ kindValue k) →
      offer k seq payload s = (s, none)) ∧
    (∀ (pre post : List QFrame) (v : QFrame), 8 ≤ s.link.queue.length → s.link.queue = pre ++ v :: post →
      (∀ g ∈ pre ++ post, g.id ≠ v.id) → s.link.attempt ≠ some v.id → kindValue k < kindValue v.kind →
      (∀ g ∈ pre, s.link.attempt ≠ some g.id → kindValue g.kind ≤ kindValue v.kind) →
      (∀ g ∈ post, s.link.attempt ≠ some g.id → kindValue g.kind < kindValue v.kind) →
      offer k seq payload s =
        ({ s with
           link := { s.link with queue := pre ++ post ++ [new], nextId := s.link.nextId + 1
                                 counted := if s.link.counted = some v.id then none else s.link.counted
                                 attempts := if s.link.counted = some v.id then 0 else s.link.attempts }
           train := { s.train with
             openFrame := if v.kind = .train ∧ s.train.openFrame = some v.id then none else s.train.openFrame
             closeFrame := if v.kind = .train ∧ s.train.closeFrame = some v.id then none else s.train.closeFrame }
           pub := if v.kind = .vehicle ∨ v.kind = .dissent then s.pub.map (noticeEntry v.id .dropped) else s.pub },
          some s.link.nextId)) ∧
    (∀ (pre post : List QFrame) (v : QFrame), s.link.queue = pre ++ v :: post → (∀ g ∈ pre ++ post, g.id ≠ v.id) →
      (s.link.attempt = some v.id → cancelFrame v.id s = { s with link := { s.link with cancelled := true } }) ∧
      (s.link.attempt ≠ some v.id → cancelFrame v.id s =
        { s with link := { s.link with queue := pre ++ post
                                       counted := if s.link.counted = some v.id then none else s.link.counted
                                       attempts := if s.link.counted = some v.id then 0 else s.link.attempts } })) ∧
    (∀ id : Nat, (∀ g ∈ s.link.queue, g.id ≠ id) → cancelFrame id s = s)

/-- A received frame that fails a receive check only brings the link to IDLE; one that bears the own position sets
POSITION_CLASH, and offers a PRESENCE from an empty fault set. While the station contends or sends it receives nothing, and
in IDLE before 11 recessive bit times it receives nothing either, the frame's dominant bits ending the count. So the frame
a station abandons by a sender error is not received, nor one in progress at a power-on reset (R17, R18, R63, R64, R66,
R68, R70, R71).
That a frame found in IDLE brings its own start mark is log entry 6, the identity of the PRESENCE log entry 19. -/
def Obligations.ReceiveChecks : Prop :=
  ∀ (i : Instr) (k : Kind) (f : RxFrame) (s : State), s.strapFault = false → frameRow i = some (k, f) →
    (s.link.state = .contending ∨ s.link.state = .sending → exec i s = .next s) ∧
    (s.link.state = .idle → s.link.recessive < 11 →
      exec i s = .next { s with link := { s.link with recessive := 0 } }) ∧
    (s.listening → (f.payload.length ≠ payloadLength k ∨ frameCheck k f.position f.sequence f.payload ≠ f.check ∨
        3 ≤ kindValue k ∧ s.conf.straps.count ≤ f.position.val) → exec i s = .next s.received) ∧
    (s.listening → f.payload.length = payloadLength k → frameCheck k f.position f.sequence f.payload = f.check →
      3 ≤ kindValue k → f.position = s.own →
      let u := s.received
      let p : PassageIntegrator := { s.pass with faults := { s.pass.faults with positionClash := true } }
      (s.pass.faults ≠ noFaults → exec i s = .next { u with pass := p }) ∧
      (s.pass.faults = noFaults →
        let payload := presencePayload s.configState s.conf.lastRefusal s.zero.left.zstate s.zero.right.zstate
          { noFaults with positionClash := true } s.conf.straps.count s.conf.straps.sec.toNat s.train.number
        exec i s = .next (offer .presence 0 payload { u with pass := p }).1 ∧
        (s.link.queue.length < 8 → exec i s = .next
          { u with pass := p
                   link := { u.link with
                     queue := s.link.queue ++ [⟨s.link.nextId, .presence, 0, payload⟩]
                     nextId := s.link.nextId + 1 } }))) ∧
    (∀ (run : Nat) (t : State), s.link.state = .contending ∨ s.link.state = .sending → run < 11 →
      exec (.senderError run) s = .next t → exec i t = .next { t with link := { t.link with recessive := 0 } }) ∧
    (∀ (pos cnt : BitVec 3) (sec : BitVec 4) (t : State), exec (.powerOnReset pos cnt sec) s = .next t →
      exec i t = .next t)

/-! ### Settings and RESTART -/

/-- RESTART_FRAME completes: a frame for another station only sets the link wake flag; one for this station, or for all,
returns every block's state, releasing the settings unless it keeps them, and queues the PRESENCE that reports it (R6,
R19, R20, R36, R41, R77, R86, R107, R140, R142, R155, R174).
That a frame found in IDLE brings its own start mark is log entry 6, the identity of the PRESENCE log entry 19. -/
def Obligations.RestartTaken : Prop :=
  ∀ (s : State) (f : RxFrame), s.strapFault = false → s.listening → s.accepts .restart f →
    (f.position ≠ s.own → get1 f.payload 0 = 0 → exec (.restartFrame f) s = .next s.delivered) ∧
    ((f.position = s.own ∨ get1 f.payload 0 ≠ 0) → ∃ t, exec (.restartFrame f) s = .next t ∧
      t.conf = { s.conf with cal := if get1 f.payload 1 ≠ 0 then s.conf.cal else none
                             site := if get1 f.payload 1 ≠ 0 then s.conf.site else none
                             lastRefusal := .none } ∧
      t.rc = { rate := .quiet, refreshTimer := none, dormantEntry := none, detectorWake := false, linkWake := false
               quietTimer := match t.conf.site with
                 | none => none
                 | some st => if st.quiet = 0 then none else some (s.tick + BitVec.ofNat 32 (st.quiet * 8192)) } ∧
      t.fe = (if s.rc.rate = .dormant then
          { s.fe with powered := true, settling := true, settleCount := 2048, settledMark := false }
        else s.fe) ∧
      t.zero = { s.zero with
        left := { s.zero.left with zstate := if get1 f.payload 1 ≠ 0 then s.zero.left.zstate else .ok }
        right := { s.zero.right with zstate := if get1 f.payload 1 ≠ 0 then s.zero.right.zstate else .ok }
        capturePending := if get1 f.payload 1 ≠ 0 then s.zero.capturePending else false
        count := 0, sumL := 0, sumR := 0 } ∧
      t.wheel = { s.wheel with dwell := none, counter := 0, prev := none } ∧
      t.pass = { s.pass with buffer := [], snapshot := none, latestSpeed := none, faults := noFaults } ∧
      t.link = { s.received.link with
        queue := [⟨s.link.nextId, .presence, 0,
          presencePayload t.configState .none t.zero.left.zstate t.zero.right.zstate noFaults s.conf.straps.count
            s.conf.straps.sec.toNat s.train.number⟩]
        attempt := none, cancelled := false, counted := none, attempts := 0, nextId := s.link.nextId + 1 } ∧
      (∀ p : Pos, t.roster[p] = ⟨.unknown, false, 0, 0⟩) ∧
      (∀ i : Fin 16, t.table.slots[i] = .free) ∧ t.table.nextExpected = 1 ∧ t.table.highestOpened = 0 ∧
      t.table.handedCount = 0 ∧ t.table.latestSpeed = none ∧
      t.asm = { vehicle := none, counter := 0, fullClose := false } ∧ t.pub = [] ∧
      t.train = { s.train with state := .noTrain, standing := .notReady, slips := 0, closeTimer := none
                               ownClose := none
                               peerClose := none
                               openFrame := none
                               closeFrame := none } ∧
      t.tick = s.tick ∧ t.pending = s.pending)

/-- CALIBRATE_FRAME completes: ignored for another station or with a CALIBRATE held; refused, with CAL_REFUSED and a
PRESENCE, when a check fails; otherwise held, both channels at the explicit zeros, the mark set by its capture field,
with a PRESENCE (R12, R14, R15, R169, R170, R173, R176, R179).
That a frame found in IDLE brings its own start mark is log entry 6, the identity of the PRESENCE log entry 19. -/
def Obligations.CalibrateTaken : Prop :=
  ∀ (s : State) (f : RxFrame), s.strapFault = false → s.listening → s.accepts .calibrate f →
    let p := f.payload
    let u := s.delivered
    let bad := get2 p 0 = 0 ∨ get2 p 3 = 0 ∨ 31 < get1 p 2 ∨ 31 < get1 p 5 ∨ 1 < get1 p 6 ∨ get2 p 16 < get2 p 14
    let payload := fun (c : ConfigState) (r : LastRefusal) (zl zr : ZeroState) =>
      presencePayload c r zl zr s.pass.faults s.conf.straps.count s.conf.straps.sec.toNat s.train.number
    (∀ (c : ConfigState) (r : LastRefusal) (zl zr : ZeroState) (t : State), t.link = u.link →
      s.link.queue.length < 8 → (offer .presence 0 (payload c r zl zr) t).1 = { t with link := { u.link with
        queue := s.link.queue ++ [⟨s.link.nextId, .presence, 0, payload c r zl zr⟩]
        nextId := s.link.nextId + 1 } }) ∧
    (f.position ≠ s.own ∨ s.conf.cal ≠ none → exec (.calibrateFrame f) s = .next u) ∧
    (f.position = s.own → s.conf.cal = none → bad → exec (.calibrateFrame f) s = .next
      (offer .presence 0 (payload (if s.conf.site = none then .blank else .listening) .calRefused s.zero.left.zstate
        s.zero.right.zstate) { u with conf := { s.conf with lastRefusal := .calRefused } }).1) ∧
    (f.position = s.own → s.conf.cal = none → ¬ bad → s.zero.capturePending = false →
      ∃ c : Calibrate, c.spanL = ⟨get2 p 0, get1 p 2⟩ ∧ c.spanR = ⟨get2 p 3, get1 p 5⟩ ∧
        c.rounding = (if get1 p 6 = 0 then .nearest else .towardZero) ∧ (c.capture = true ↔ get1 p 7 ≠ 0) ∧
        (-8388608 ≤ c.zeroL ∧ c.zeroL ≤ 8388607 ∧ c.zeroL % 16777216 = get3 p 8) ∧
        (-8388608 ≤ c.zeroR ∧ c.zeroR ≤ 8388607 ∧ c.zeroR % 16777216 = get3 p 11) ∧
        c.warn = get2 p 14 ∧ c.limit = get2 p 16 ∧ c.band = get2 p 18 ∧
        exec (.calibrateFrame f) s = .next
          (offer .presence 0
            (payload (if s.conf.site = none then .calHeld else if get1 p 7 ≠ 0 then .capturing else .ready) .none .ok .ok)
            { u with conf := { s.conf with cal := some c, lastRefusal := .none }
                     zero := { left := ⟨256 * c.zeroL, 256 * c.zeroL, .ok⟩, right := ⟨256 * c.zeroR, 256 * c.zeroR, .ok⟩
                               capturePending := c.capture
                               count := 0, sumL := 0, sumR := 0 } }).1)

/-- SITE_FRAME completes: ignored with a SITE held; refused, with SITE_REFUSED and a PRESENCE, when the boundaries do not
rise or B1 does not exceed the section; otherwise held with the clamps, the quiet timer restarted with its new length in
QUIET with no dormant entry in flight, with a PRESENCE (R8, R11, R171, R173, R176, R179).
That a frame found in IDLE brings its own start mark is log entry 6, the identity of the PRESENCE log entry 19. -/
def Obligations.SiteTaken : Prop :=
  ∀ (s : State) (f : RxFrame), s.strapFault = false → s.listening → s.accepts .site f →
    let p := f.payload
    let u := s.delivered
    let good := get1 p 12 < get1 p 13 ∧ get1 p 13 < get1 p 14 ∧ 600 + 100 * s.conf.straps.sec.toNat < get1 p 12 * 100
    let payload := fun (c : ConfigState) (r : LastRefusal) =>
      presencePayload c r s.zero.left.zstate s.zero.right.zstate s.pass.faults s.conf.straps.count
        s.conf.straps.sec.toNat s.train.number
    let st : Site :=
      { overload := get2 p 0, agree := get2 p 2, spread := get2 p 4, quiet := get2 p 6, refresh := get2 p 8
        impact := max (get2 p 10) 100
        b1 := get1 p 12 * 10, b2 := get1 p 13 * 10, b3 := get1 p 14 * 10
        imbalance := min (get1 p 15) 100
        k := max 4 (min (get1 p 16 / 16) 12)
        quorum := max 1 (min (get1 p 16 % 16) s.conf.straps.count)
        debounce := max 8 (min (get3 p 17 / 16384) 1023)
        mask := BitVec.ofNat 14 (get3 p 17 % 16384) }
    (∀ (c : ConfigState) (r : LastRefusal) (t : State), t.link = u.link → s.link.queue.length < 8 →
      (offer .presence 0 (payload c r) t).1 = { t with link := { u.link with
        queue := s.link.queue ++ [⟨s.link.nextId, .presence, 0, payload c r⟩], nextId := s.link.nextId + 1 } }) ∧
    (s.conf.site ≠ none → exec (.siteFrame f) s = .next u) ∧
    (s.conf.site = none → ¬ good → exec (.siteFrame f) s = .next
      (offer .presence 0 (payload (if s.conf.cal = none then .blank else .calHeld) .siteRefused)
        { u with conf := { s.conf with lastRefusal := .siteRefused } }).1) ∧
    (s.conf.site = none → good → exec (.siteFrame f) s = .next
      (offer .presence 0
        (payload (if s.conf.cal = none then .listening
          else if s.zero.capturePending = true then .capturing else .ready) .none)
        { u with conf := { s.conf with site := some st, lastRefusal := .none }
                 rc := if s.rc.rate = .quiet ∧ s.rc.dormantEntry = none then
                     { u.rc with quietTimer := if get2 p 6 = 0 then none
                                   else some (s.tick + BitVec.ofNat 32 (get2 p 6 * 8192)) }
                   else u.rc }).1)

/-! ### Peers and their frames -/

/-- PRESENCE_FRAME and DISSENT_FRAME complete with the Roster alone: misses 0, LIVE unless DESYNC, ready by a PRESENCE and
by an AXLE frame; and what the reports of a decision and of a close do to an entry, and the expected set (R72, R79, R80,
R81, R82, R84, R85, R87). A slip reported of an UNKNOWN peer has no row in R84 and is not stated.
That a frame found in IDLE brings its own start mark is log entry 6; the misses of a SILENT and the slips of a DESYNC
peer that are not 3 are log entries 30 and 31. -/
def Obligations.RosterEntries : Prop :=
  (∀ (s : State) (f : RxFrame), s.strapFault = false → s.listening →
    let e := s.roster[f.position]
    let stays : PeerState := if e.state = .desync then .desync else .live
    (s.accepts .presence f → exec (.presenceFrame f) s = .next
      { s.delivered with roster := s.roster.set f.position ⟨stays, decide (get1 f.payload 0 = 4), 0, e.slips⟩ }) ∧
    (s.accepts .dissent f → exec (.dissentFrame f) s = .next
      { s.delivered with roster := s.roster.set f.position ⟨stays, e.ready, 0, e.slips⟩ }) ∧
    rosterTake .axle f s = { s with roster := s.roster.set f.position ⟨stays, true, 0, e.slips⟩ } ∧
    rosterTake .train f s = { s with roster := s.roster.set f.position ⟨stays, e.ready, 0, e.slips⟩ } ∧
    rosterTake .vehicle f s = { s with roster := s.roster.set f.position ⟨stays, e.ready, 0, e.slips⟩ }) ∧
  (∀ e : RosterEntry,
    reportPresence true e = { e with misses := 0 } ∧
    (e.state = .live → e.misses < 2 → reportPresence false e = { e with misses := e.misses + 1 }) ∧
    (e.state = .live → e.misses = 2 → reportPresence false e = { e with state := .silent, misses := 3 }) ∧
    (e.state = .silent → reportPresence false e = { e with misses := 3 }) ∧
    (e.state = .desync → reportPresence false e = { e with misses := min (e.misses + 1) 3 }) ∧
    (e.state = .unknown → reportPresence false e = e) ∧
    (e.state = .live ∨ e.state = .silent → e.slips < 2 → reportSlip true e = { e with slips := e.slips + 1 }) ∧
    (e.state = .live ∨ e.state = .silent → e.slips = 2 → reportSlip true e = { e with state := .desync, slips := 3 }) ∧
    (e.state = .desync → reportSlip true e = { e with slips := 3 }) ∧
    (e.state ≠ .unknown → reportSlip false e = { e with slips := 0 }) ∧
    (e.state = .desync → releaseEntry e = { e with state := .live, misses := 0, slips := 0 }) ∧
    (e.state ≠ .desync → releaseEntry e = { e with slips := 0 })) ∧
  (∀ (own p : Pos) (c : Collecting) (e : RosterEntry),
    reportPeer own c own e = e ∧
    (p ≠ own → c.expected[p] = true → c.contribs[p] = none → reportPeer own c p e = reportPresence false e) ∧
    (p ≠ own → c.expected[p] = false → c.contribs[p] = none → reportPeer own c p e = e) ∧
    (∀ q, p ≠ own → c.expected[p] = true → c.contribs[p] = some q → reportPeer own c p e =
      (match slipResult c.present ⟨p, q⟩ with
       | none => { e with misses := 0 }
       | some slip => reportSlip slip { e with misses := 0 }))) ∧
  (∀ (s : State) (p : Pos), s.expectedSet[p] = true ↔
    (p = s.own ∧ s.train.standing = .contributing) ∨
      (p ≠ s.own ∧ (s.roster[p]).state = .live ∧ (s.roster[p]).ready = true))

/-- TRAIN_OPEN_FRAME completes: in NO_TRAIN it opens a train in its direction without a TRAIN-OPEN of the station's own;
in RUNNING in the train's direction it cancels the own TRAIN-OPEN that waits; in ABANDONED, without a SITE and with
another subtype nothing but the Roster and the wake flag takes it (R6, R72, R75, R79, R90, R142, R156, R158, R160, R179).
The opposite direction in RUNNING stands in AbandonmentCauses.
That a frame found in IDLE brings its own start mark is log entry 6, the order in which the Roster takes it log entry 8;
that a frame row with another subtype than its own reaches the Roster alone is log entry 18. -/
def Obligations.TrainOpenTaken : Prop :=
  ∀ (s : State) (f : RxFrame), s.strapFault = false → s.listening → s.accepts .train f →
    let u := rosterTake .train f s.delivered
    let d : Direction := if get1 f.payload 1 % 2 = 1 then .down else .up
    (s.conf.site = none ∨ get1 f.payload 0 ≠ 1 ∨ s.train.state = .abandoned → exec (.trainOpenFrame f) s = .next u) ∧
    (s.conf.site ≠ none → get1 f.payload 0 = 1 → s.train.state = .noTrain → s.rc.rate ≠ .active →
      exec (.trainOpenFrame f) s = .next
        { u with
          train := { state := .running, dir := d, slips := 0, ownClose := none, peerClose := none, openFrame := none
                     closeFrame := none
                     standing := if s.conf.cal.isSome = true ∧ s.zero.capturePending = false then .contributing
                       else .notReady
                     closeTimer := some (s.tick + 491520)
                     number := s.train.number + 1 }
          rc := { u.rc with rate := .active, quietTimer := none, dormantEntry := none
                            refreshTimer := if s.rc.rate = .dormant then none else s.rc.refreshTimer }
          fe := if s.rc.rate = .dormant then
              { s.fe with powered := true, settling := true, settleCount := 2048, settledMark := false }
            else s.fe
          zero := { s.zero with count := 0, sumL := 0, sumR := 0 }
          wheel := { s.wheel with counter := 0, prev := none }
          pass := { s.pass with latestSpeed := none }
          table := { s.table with nextExpected := 1, highestOpened := 0, handedCount := 0, latestSpeed := none }
          asm := { s.asm with counter := 0, fullClose := false }
          pub := [] }) ∧
    (s.conf.site ≠ none → get1 f.payload 0 = 1 → s.train.state = .running → d = s.train.dir →
      s.train.openFrame = none → exec (.trainOpenFrame f) s = .next u) ∧
    (∀ (pre post : List QFrame) (g : QFrame), s.conf.site ≠ none → get1 f.payload 0 = 1 → s.train.state = .running →
      d = s.train.dir → s.train.openFrame = some g.id → s.link.queue = pre ++ g :: post →
      (∀ h ∈ pre ++ post, h.id ≠ g.id) → s.link.attempt = none → exec (.trainOpenFrame f) s = .next
        { u with
          train := { s.train with openFrame := none }
          link := { u.link with queue := pre ++ post
                                counted := if s.link.counted = some g.id then none else s.link.counted
                                attempts := if s.link.counted = some g.id then 0 else s.link.attempts } })

/-- TRAIN_CLOSE_FRAME completes: with a train held the first one heard is kept; in NO_TRAIN one that matches the own close
record in ordinal and vehicle count cancels the own TRAIN-CLOSE that waits; else it, and a TRAIN_REVERSAL_FRAME outside
RUNNING, goes to the Roster and the wake flag alone (R72, R75, R79, R155, R162, R163, R179).
That a frame found in IDLE brings its own start mark is log entry 6, the order in which the Roster takes it log entry 8;
that a frame row with another subtype than its own reaches the Roster alone is log entry 18. -/
def Obligations.TrainCloseTaken : Prop :=
  ∀ (s : State) (f : RxFrame), s.strapFault = false → s.listening → s.accepts .train f →
    let u := rosterTake .train f s.delivered
    (s.conf.site = none ∨ get1 f.payload 0 ≠ 2 ∨ s.train.state ≠ .running →
      exec (.trainReversalFrame f) s = .next u) ∧
    (s.conf.site = none ∨ get1 f.payload 0 ≠ 3 → exec (.trainCloseFrame f) s = .next u) ∧
    (s.conf.site ≠ none → get1 f.payload 0 = 3 → s.train.state ≠ .noTrain →
      (s.train.peerClose ≠ none → exec (.trainCloseFrame f) s = .next u) ∧
      (s.train.peerClose = none → ∃ r : TrainFrame, r.sender = f.position ∧ r.subtype = 3 ∧
        r.ordinal = get2 f.payload 3 ∧ r.vehicles = get2 f.payload 5 ∧ r.trainNo.toNat = get1 f.payload 2 ∧
        (r.dir = if get1 f.payload 1 % 2 = 1 then .down else .up) ∧
        (r.reversed = true ↔ get1 f.payload 7 % 2 = 1) ∧ (r.desync = true ↔ get1 f.payload 7 / 2 % 2 = 1) ∧
        exec (.trainCloseFrame f) s = .next { u with train := { s.train with peerClose := some r } })) ∧
    (s.conf.site ≠ none → get1 f.payload 0 = 3 → s.train.state = .noTrain →
      (s.train.closeFrame = none → exec (.trainCloseFrame f) s = .next u) ∧
      (∀ c : CloseRecord, s.train.ownClose = some c →
        (get2 f.payload 3 ≠ c.handed ∨ get2 f.payload 5 ≠ c.vehicles → exec (.trainCloseFrame f) s = .next u) ∧
        (∀ (pre post : List QFrame) (g : QFrame), get2 f.payload 3 = c.handed → get2 f.payload 5 = c.vehicles →
          s.train.closeFrame = some g.id → s.link.queue = pre ++ g :: post → (∀ h ∈ pre ++ post, h.id ≠ g.id) →
          s.link.attempt = none → exec (.trainCloseFrame f) s = .next
            { u with
              train := { s.train with closeFrame := none }
              link := { u.link with queue := pre ++ post
                                    counted := if s.link.counted = some g.id then none else s.link.counted
                                    attempts := if s.link.counted = some g.id then 0 else s.link.attempts } })))

/-- AXLE_FRAME completes: without a SITE the Roster alone takes it; in RUNNING and ABANDONED it restarts the close timer,
and in RUNNING it is stored unless it is of the other direction, late, or finds a DECIDED entry: a stored contribution
joins its open entry, its position joins the expected set, and the deadline is set afresh while a position is awaited; one
that leaves none awaited decides the entry as complete (R59, R72, R79, R80, R91, R92, R94, R95, R96, R98, R159, R160).
That a frame found in IDLE brings its own start mark is log entry 6, the order in which the Roster takes it log entry 8. -/
def Obligations.AxleTaken : Prop :=
  ∀ (s : State) (f : RxFrame), s.strapFault = false → s.listening → s.accepts .axle f →
    let q := readAxle f.payload
    let u := rosterTake .axle f s.delivered
    let v := restartClose u
    (s.conf.site = none → exec (.axleFrame f) s = .next u) ∧
    (s.conf.site ≠ none → s.train.state = .abandoned → exec (.axleFrame f) s = .next v) ∧
    (s.conf.site ≠ none → s.train.state = .running →
      (q.dir ≠ s.train.dir ∨ q.ordinal < s.table.nextExpected → exec (.axleFrame f) s = .next v) ∧
      (q.dir = s.train.dir → s.table.nextExpected ≤ q.ordinal → q.ordinal ≤ s.table.nextExpected + 15 →
        (∀ (i : Fin 16) (c : Collecting) (a : ConsensusAxle), slotOf s.table.slots q.ordinal = some i →
          s.table.slots[i] = .decided c a → exec (.axleFrame f) s = .next v) ∧
        (∀ (i : Fin 16) (c : Collecting) (e : Tick), slotOf s.table.slots q.ordinal = some i →
          s.table.slots[i] = .opened c e → f.rosterLast = false →
          let c' : Collecting := { c with contribs := c.contribs.set f.position (some q)
                                          expected := c.expected.set f.position true }
          let awaited := c'.awaitedList.length
          (awaited ≠ 0 → exec (.axleFrame f) s = .next
            { v with table := { s.table with
                slots := s.table.slots.set i (.opened c'
                  (s.tick + BitVec.ofNat 32 (deadlineTicks s.conf.straps.length awaited q.speed))) } }) ∧
          (awaited = 0 → exec (.axleFrame f) s = .next (handChain (decideEntry i c' .complete v)))) ∧
        (∀ i : Fin 16, slotOf s.table.slots q.ordinal = none → s.table.slots[i] = .free →
          (∀ j : Fin 16, j < i → s.table.slots[j] ≠ .free) → f.rosterLast = false →
          let c' : Collecting :=
            { ordinal := q.ordinal
              contribs := (Vector.replicate 8 none).set f.position (some q)
              expected := u.expectedSet.set f.position true }
          let awaited := c'.awaitedList.length
          let table := { s.table with highestOpened := max s.table.highestOpened q.ordinal }
          (awaited ≠ 0 → exec (.axleFrame f) s = .next
            { v with table := { table with
                slots := s.table.slots.set i (.opened c'
                  (s.tick + BitVec.ofNat 32 (deadlineTicks s.conf.straps.length awaited q.speed))) } }) ∧
          (awaited = 0 → exec (.axleFrame f) s = .next
            (handChain (decideEntry i c' .complete { v with table := table }))))))

/-- AXLE_FRAME in NO_TRAIN opens a train and is its first contribution: CONTRIBUTING or NOT_READY at ordinal 1, JOINED with
next_expected at the frame's ordinal above it; ACTIVE asked for, a DORMANT station powering up with settling of 2,048; the
entry waits for the positions awaited, and one that leaves none awaited is decided at once. A contribution beyond the
window forces the window up in steps: the OPEN entry at next_expected decided with FORCED and handed, or a hole with HOLE,
UNWEIGHED and FORCED handed for it, then the hand-over chain, then the contribution taken again; in an empty table that
leaves next_expected 15 below the contribution and one entry (R4, R6, R16, R81, R88, R90, R92, R93, R94, R96, R98, R102,
R142, R156, R159, R160). The steps take a table whose entries lie inside the window (R89).
That a frame found in IDLE brings its own start mark is log entry 6, the order in which the Roster takes it log entry 8,
that the AXLE frames are cancelled before the hand-over log entry 32. -/
def Obligations.AxleOpensAndForces : Prop :=
  (∀ (s : State) (f : RxFrame), s.strapFault = false → s.listening → s.accepts .axle f → s.conf.site ≠ none →
    s.train.state = .noTrain → (∀ i : Fin 16, s.table.slots[i] = .free) →
    let q := readAxle f.payload
    let ready : Bool := s.conf.cal.isSome && !s.zero.capturePending
    let c : Collecting :=
      { ordinal := q.ordinal
        contribs := (Vector.replicate 8 none).set f.position (some q)
        expected := (Vector.ofFn fun p : Pos =>
          if p = s.own then ready && decide (q.ordinal = 1) else (s.roster[p]).awaited).set f.position true }
    let opened := fun b : State =>
      { b with
        train := { state := .running, dir := q.dir, slips := 0, ownClose := none, peerClose := none, openFrame := none
                   closeFrame := none
                   standing := if 1 < q.ordinal then .joined else if ready = true then .contributing else .notReady
                   closeTimer := some (s.tick + 491520)
                   number := s.train.number + 1 }
        rc := if s.rc.rate = .active then b.rc else
          { b.rc with rate := .active, quietTimer := none, dormantEntry := none
                      refreshTimer := if s.rc.rate = .dormant then none else s.rc.refreshTimer }
        fe := if s.rc.rate = .dormant then
            { s.fe with powered := true, settling := true, settleCount := 2048, settledMark := false }
          else s.fe
        zero := { s.zero with count := 0, sumL := 0, sumR := 0 }
        wheel := { s.wheel with counter := 0, prev := none }
        pass := { s.pass with latestSpeed := none }
        table := { s.table with nextExpected := max 1 q.ordinal, highestOpened := q.ordinal, handedCount := 0
                                latestSpeed := none }
        asm := { s.asm with counter := 0, fullClose := false }
        pub := [] }
    let u := rosterTake .axle f s.delivered
    (q.ordinal = 0 → exec (.axleFrame f) s = .next (opened u)) ∧
    (1 ≤ q.ordinal → c.awaitedList ≠ [] → exec (.axleFrame f) s = .next
      { opened u with table := { (opened u).table with
          slots := s.table.slots.set 0 (.opened c (s.tick + BitVec.ofNat 32
            (deadlineTicks s.conf.straps.length c.awaitedList.length q.speed))) } }) ∧
    (1 ≤ q.ordinal → c.awaitedList = [] → exec (.axleFrame f) s = .next
      (if f.rosterLast = true then rosterTake .axle f (handChain (decideEntry 0 c .complete (opened s.delivered)))
       else handChain (decideEntry 0 c .complete (opened u))))) ∧
  (∀ (s : State) (f : RxFrame), s.strapFault = false → s.listening → s.accepts .axle f → s.conf.site ≠ none →
    s.train.state = .running → s.train.standing = .contributing → (∀ i : Fin 16, s.table.slots[i] = .free) →
    let q := readAxle f.payload
    q.dir = s.train.dir → s.table.nextExpected + 15 < q.ordinal → s.table.handedCount ≤ 65535 →
    ∃ t c e, exec (.axleFrame f) s = .next t ∧ t.table.nextExpected = q.ordinal - 15 ∧
      t.table.handedCount = min (s.table.handedCount + (q.ordinal - 15 - s.table.nextExpected)) 65535 ∧
      t.table.highestOpened = max s.table.highestOpened q.ordinal ∧
      t.table.slots[0] = .opened c e ∧ c.ordinal = q.ordinal ∧ c.contribs[f.position] = some q ∧
      (∀ p : Pos, p ≠ f.position → c.contribs[p] = none) ∧ (∀ i : Fin 16, i ≠ 0 → t.table.slots[i] = .free)) ∧
  (∀ (s : State) (f : RxFrame), s.strapFault = false → s.listening → s.accepts .axle f → s.conf.site ≠ none →
    s.train.state = .running →
    let q := readAxle f.payload
    exec (.axleFrame f) s = .next
      (if f.rosterLast = true then rosterTake .axle f (takeContribution f.position q (restartClose s.delivered))
       else takeContribution f.position q (restartClose (rosterTake .axle f s.delivered)))) ∧
  (∀ (s : State) (p : Pos) (q : Partial), s.conf.site ≠ none → s.train.state = .running → q.dir = s.train.dir →
    s.table.nextExpected + 15 < q.ordinal →
    (∀ (i : Fin 16) (n : Nat), (s.table.slots[i]).ordinal? = some n → n ≤ s.table.nextExpected + 15) →
    let raised := { s.table with nextExpected := s.table.nextExpected + 1
                                 handedCount := min (s.table.handedCount + 1) 65535 }
    (slotOf s.table.slots s.table.nextExpected = none → takeContribution p q s =
      takeContribution p q (handChain (takeAxle
        { ordinal := s.table.nextExpected, loads := none, speed := none, spacing := none, noted := 0
          flags := { hole := true, unweighed := true, forced := true } }
        { s with table := raised }))) ∧
    (∀ (i : Fin 16) (c : Collecting) (e : Tick), slotOf s.table.slots s.table.nextExpected = some i →
      s.table.slots[i] = .opened c e →
      let a := decideAxle s.decisionSettings c .forced
      let decided := takeOwnSlip (ownSlip s.own c)
        { s with table := { s.table with slots := s.table.slots.set i (.decided c a), latestSpeed := some a.speed }
                 roster := Vector.ofFn fun p : Pos => reportPeer s.own c p s.roster[p] }
      a.flags.forced = true ∧ takeContribution p q s =
        takeContribution p q (handChain (takeAxle a { decided with table :=
          { raised with slots := s.table.slots.set i .free, latestSpeed := some a.speed } }))))

/-- VEHICLE_FRAME completes, and the station's own record is taken: a record without an entry makes one, recycling the
lowest ordinal at 16; agreeing records are SUPPRESSED, the own VEHICLE frame that waits being cancelled; disagreeing ones
queue a DISSENT frame; an own record whose offer is refused leaves its entry DROPPED; every other entry keeps what it
holds (R72, R75, R79, R141, R143, R144, R145, R146, R147, R148, R149, R151, R179). What an offer does to a full transmit queue
stands in QueueOffers.
That a frame found in IDLE brings its own start mark is log entry 6, the order in which the Roster takes it log entry 8,
the identities of frames log entry 19, the list of entries and its order log entry 27. -/
def Obligations.VehiclesTaken : Prop :=
  (∀ (s : State) (f : RxFrame), s.strapFault = false → s.listening → s.accepts .vehicle f →
    let r := readVehicle f.position f.payload
    let u := rosterTake .vehicle f s.delivered
    (s.conf.site = none ∨ r.ordinal = 0 → exec (.vehicleFrame f) s = .next u) ∧
    (s.conf.site ≠ none → r.ordinal ≠ 0 →
      ((∀ e ∈ s.pub, e.ordinal ≠ r.ordinal) → s.pub.length < 16 → exec (.vehicleFrame f) s = .next
        { u with pub := s.pub ++ [⟨r.ordinal, .awaitingOwn r⟩] }) ∧
      (∀ (pre post : List PubEntry) (e : PubEntry), s.pub = pre ++ e :: post → 16 ≤ s.pub.length →
        (∀ x ∈ pre ++ post, e.ordinal < x.ordinal) → (∀ x ∈ s.pub, x.ordinal ≠ r.ordinal) →
        exec (.vehicleFrame f) s = .next { u with pub := pre ++ post ++ [⟨r.ordinal, .awaitingOwn r⟩] }) ∧
      (∀ (pre post : List PubEntry) (e : PubEntry), s.pub = pre ++ e :: post → e.ordinal = r.ordinal →
        (∀ x ∈ pre ++ post, x.ordinal ≠ r.ordinal) →
        ((∀ own ref, e.state ≠ .queued own ref) → exec (.vehicleFrame f) s = .next u) ∧
        (∀ (own : VehicleRecord) (a b : List QFrame) (g : QFrame), e.state = .queued own g.id →
          s.link.queue = a ++ g :: b → (∀ h ∈ a ++ b, h.id ≠ g.id) → s.link.attempt = none →
          s.link.queue.length ≤ 8 →
          let l : LinkControl := { u.link with
            counted := if s.link.counted = some g.id then none else s.link.counted
            attempts := if s.link.counted = some g.id then 0 else s.link.attempts }
          (agree s.tolerance own r = true → exec (.vehicleFrame f) s = .next
            { u with pub := pre ++ ⟨r.ordinal, .suppressed own r⟩ :: post, link := { l with queue := a ++ b } }) ∧
          (agree s.tolerance own r = false → exec (.vehicleFrame f) s = .next
            { u with pub := pre ++ ⟨r.ordinal, .dissentQueued own r s.link.nextId⟩ :: post
                     link := { l with
                       queue := a ++ b ++ [⟨s.link.nextId, .dissent, BitVec.ofNat 6 own.ordinal,
                         dissentPayload own f.position⟩]
                       nextId := s.link.nextId + 1 } }))))) ∧
  (∀ (tol : Nat) (own : VehicleRecord) (peer : PeerRecord), agree tol own peer = true ↔
    own.firstAxle = peer.firstAxle ∧ own.axleCount = peer.axleCount ∧ own.groups.length = peer.groupCount ∧
    own.groups = peer.sizes.take peer.groupCount ∧ ((own.gross : Int) - peer.gross).natAbs ≤ 10 * tol) ∧
  (∀ (s : State) (r : VehicleRecord), s.link.queue.length < 8 →
    let queued := fun (k : Kind) (payload : List Byte) => { s.link with
      queue := s.link.queue ++ [⟨s.link.nextId, k, BitVec.ofNat 6 r.ordinal, payload⟩], nextId := s.link.nextId + 1 }
    ((∀ e ∈ s.pub, e.ordinal ≠ r.ordinal) → s.pub.length < 16 → takeOwnRecord r s =
      { s with pub := s.pub ++ [⟨r.ordinal, .queued r s.link.nextId⟩], link := queued .vehicle (vehiclePayload r) }) ∧
    (∀ (pre post : List PubEntry) (e : PubEntry), s.pub = pre ++ e :: post → 16 ≤ s.pub.length →
      (∀ x ∈ pre ++ post, e.ordinal < x.ordinal) → (∀ x ∈ s.pub, x.ordinal ≠ r.ordinal) → takeOwnRecord r s =
      { s with pub := pre ++ post ++ [⟨r.ordinal, .queued r s.link.nextId⟩]
               link := queued .vehicle (vehiclePayload r) }) ∧
    (∀ (pre post : List PubEntry) (e : PubEntry), s.pub = pre ++ e :: post → e.ordinal = r.ordinal →
      (∀ x ∈ pre ++ post, x.ordinal ≠ r.ordinal) →
      ((∀ peer, e.state ≠ .awaitingOwn peer) → takeOwnRecord r s = s) ∧
      (∀ peer, e.state = .awaitingOwn peer → agree s.tolerance r peer = true → takeOwnRecord r s =
        { s with pub := pre ++ ⟨r.ordinal, .suppressed r peer⟩ :: post }) ∧
      (∀ peer, e.state = .awaitingOwn peer → agree s.tolerance r peer = false → takeOwnRecord r s =
        { s with pub := pre ++ ⟨r.ordinal, .dissentQueued r peer s.link.nextId⟩ :: post
                 link := queued .dissent (dissentPayload r peer.sender) }))) ∧
  (∀ (s : State) (r : VehicleRecord),
    (∀ kept : List PubEntry, (∀ x ∈ s.pub, x.ordinal ≠ r.ordinal) →
      (s.pub.length < 16 ∧ kept = s.pub ∨
        16 ≤ s.pub.length ∧ ∃ (pre post : List PubEntry) (e : PubEntry), s.pub = pre ++ e :: post ∧
          (∀ x ∈ pre ++ post, e.ordinal < x.ordinal) ∧ kept = pre ++ post) →
      let offered := offer .vehicle (BitVec.ofNat 6 r.ordinal) (vehiclePayload r) { s with pub := kept }
      let state : PubState := match offered.2 with
        | some id => .queued r id
        | none => .dropped r none
      takeOwnRecord r s = { offered.1 with pub := offered.1.pub ++ [⟨r.ordinal, state⟩] }) ∧
    (∀ (e : PubEntry) (peer : PeerRecord), e ∈ s.pub → e.ordinal = r.ordinal →
      (∀ x ∈ s.pub, x.ordinal = r.ordinal → x = e) → e.state = .awaitingOwn peer → agree s.tolerance r peer = false →
      let offered := offer .dissent (BitVec.ofNat 6 r.ordinal) (dissentPayload r peer.sender) s
      let state : PubState := match offered.2 with
        | some id => .dissentQueued r peer id
        | none => .dropped r (some peer)
      takeOwnRecord r s = { offered.1 with
        pub := offered.1.pub.map fun x => if x.ordinal = r.ordinal then ⟨r.ordinal, state⟩ else x }))

/-- The Vehicle Assembler takes a consensus axle: with no vehicle open it opens one; a BOGIE axle joins the last group, or
starts one with UNRESOLVED; a BODY axle starts a group; where a fourth group would be needed the vehicle closes SPLIT and
the axle opens the next with SPLIT; COUPLING and GAP close and open; the twelfth axle closes with UNRESOLVED and sets the
full-close mark (R126, R127, R128, R129, R130, R131, R132, R133, R136, R139). -/
def Obligations.AssemblerTakes : Prop :=
  ∀ (s : State) (a : ConsensusAxle),
    let va : VehicleAxle := ⟨a, s.axleClass a⟩
    let opened := fun (t : State) (first unresolved split : Bool) =>
      { t with asm :=
        { vehicle := some { ordinal := min (t.asm.counter + 1) 4095, firstAxle := a.ordinal, groups := [1]
                            axles := [va]
                            flags := { first := first, unresolved := unresolved, split := split
                                       gap := s.axleClass a == .gap } }
          counter := min (t.asm.counter + 1) 4095
          fullClose := false } }
    let closed := fun (v : OpenVehicle) (closing : VehicleFlags) =>
      takeOwnRecord (recordOf s.train.number closing v) { s with asm := { s.asm with vehicle := none } }
    let unresolved := s.asm.fullClose && (s.axleClass a == .bogie || s.axleClass a == .body)
    (s.asm.vehicle = none → takeAxle a s = opened s (s.asm.counter == 0) unresolved false) ∧
    (∀ (v : OpenVehicle) (gs : List Nat) (g : Nat), s.asm.vehicle = some v → v.groups = gs ++ [g] →
      let grown := fun (groups : List Nat) (unres : Bool) =>
        { v with groups := groups, axles := v.axles ++ [va]
                 flags := { v.flags with unresolved := v.flags.unresolved || unres } }
      let appended := fun (w : OpenVehicle) =>
        (v.axles.length ≠ 11 → takeAxle a s = { s with asm := { s.asm with vehicle := some w } }) ∧
        (v.axles.length = 11 → takeAxle a s = { closed w { unresolved := true } with
          asm := { s.asm with vehicle := none, fullClose := true } })
      (s.axleClass a = .bogie → g < 4 → appended (grown (gs ++ [g + 1]) false)) ∧
      (s.axleClass a = .bogie → g = 4 → gs.length < 2 → appended (grown (gs ++ [g, 1]) true)) ∧
      (s.axleClass a = .body → gs.length < 2 → appended (grown (gs ++ [g, 1]) false)) ∧
      ((s.axleClass a = .bogie ∧ g = 4 ∨ s.axleClass a = .body) → gs.length = 2 → takeAxle a s =
        opened (closed v { split := true }) (s.asm.counter == 0) unresolved true) ∧
      (s.axleClass a = .coupling → takeAxle a s = opened (closed v {}) (s.asm.counter == 0) false false) ∧
      (s.axleClass a = .gap → takeAxle a s = opened (closed v { gap := true }) (s.asm.counter == 0) false false))

/-- Hand-overs: a DECIDED entry at next_expected is handed and freed; a hole is handed when no entry stands there, a higher
one is DECIDED, and the station does not contribute or has counted that far; none is due at an OPEN entry. The chain
repeats these until none is due. A forced step hands the ordinal next_expected: a DECIDED entry as it stands, an OPEN one
decided with FORCED, else a hole with HOLE, UNWEIGHED and FORCED; the flush takes forced steps up to its last ordinal, one
for each. A decision makes its entry DECIDED with its consensus axle and sets the latest decided speed, and the Roster and
the own standing take its reports. Three own slips in a row at CONTRIBUTING standing make it DESYNC (R93, R98, R100, R101,
R102, R104, R105, R112).
That a flush or cut runs no hand-over chain between its ordinals is log entry 12, that the AXLE frames are cancelled before
the hand-over log entry 32. -/
def Obligations.HandOvers : Prop :=
  (∀ (s : State) (i : Fin 16) (c : Collecting) (a : ConsensusAxle), slotOf s.table.slots s.table.nextExpected = some i →
    s.table.slots[i] = .decided c a → handStep s = some (takeAxle a { s with table := { s.table with
      slots := s.table.slots.set i .free
      nextExpected := s.table.nextExpected + 1
      handedCount := min (s.table.handedCount + 1) 65535 } })) ∧
  (∀ (s : State) (i : Fin 16) (c : Collecting) (e : Tick), slotOf s.table.slots s.table.nextExpected = some i →
    s.table.slots[i] = .opened c e → handStep s = none) ∧
  ((∀ s : State, handStep s = none → handChain s = s) ∧
   (∀ s t : State, handStep s = some t → handChain s = handChain t) ∧
   (∀ s : State, handStep (handChain s) = none)) ∧
  (∀ s : State, slotOf s.table.slots s.table.nextExpected = none →
    let due := (∃ (i : Fin 16) (c : Collecting) (a : ConsensusAxle), s.table.slots[i] = .decided c a ∧
        s.table.nextExpected < c.ordinal) ∧
      (s.train.standing ≠ .contributing ∨ s.table.nextExpected ≤ s.wheel.counter)
    (¬ due → handStep s = none) ∧
    (due → handStep s = some (takeAxle
      { ordinal := s.table.nextExpected, loads := none, speed := none, spacing := none, noted := 0
        flags := { hole := true, unweighed := true } }
      { s with table := { s.table with nextExpected := s.table.nextExpected + 1
                                       handedCount := min (s.table.handedCount + 1) 65535 } }))) ∧
  (∀ s : State,
    let raised := { s.table with nextExpected := s.table.nextExpected + 1
                                 handedCount := min (s.table.handedCount + 1) 65535 }
    (slotOf s.table.slots s.table.nextExpected = none → forcedStep s = takeAxle
      { ordinal := s.table.nextExpected, loads := none, speed := none, spacing := none, noted := 0
        flags := { hole := true, unweighed := true, forced := true } } { s with table := raised }) ∧
    (∀ i : Fin 16, slotOf s.table.slots s.table.nextExpected = some i →
      (∀ (c : Collecting) (a : ConsensusAxle), s.table.slots[i] = .decided c a →
        forcedStep s = takeAxle a { s with table := { raised with slots := s.table.slots.set i .free } }) ∧
      (∀ (c : Collecting) (e : Tick), s.table.slots[i] = .opened c e →
        let a := decideAxle s.decisionSettings c .forced
        let decided := takeOwnSlip (ownSlip s.own c)
          { s with table := { s.table with slots := s.table.slots.set i (.decided c a), latestSpeed := some a.speed }
                   roster := Vector.ofFn fun p : Pos => reportPeer s.own c p s.roster[p] }
        a.flags.forced = true ∧ forcedStep s = takeAxle a { decided with table :=
          { raised with slots := s.table.slots.set i .free, latestSpeed := some a.speed } }))) ∧
  (∀ (s : State) (i : Fin 16) (c : Collecting) (t : Trigger),
    let a := decideAxle s.decisionSettings c t
    decideEntry i c t s = takeOwnSlip (ownSlip s.own c)
      { s with table := { s.table with slots := s.table.slots.set i (.decided c a), latestSpeed := some a.speed }
               roster := Vector.ofFn fun p : Pos => reportPeer s.own c p s.roster[p] }) ∧
  (∀ (s : State) (last : Nat),
    (last < s.table.nextExpected → flushTo last s = s) ∧
    (s.table.nextExpected ≤ last → flushTo last s = flushTo last (forcedStep s))) ∧
  (∀ (s : State) (last : Nat), s.table.nextExpected ≤ last + 1 →
    (flushTo last s).table.nextExpected = last + 1 ∧
    (s.table.handedCount ≤ 65535 → (flushTo last s).table.handedCount =
      min (s.table.handedCount + (last + 1 - s.table.nextExpected)) 65535)) ∧
  (∀ s : State,
    takeOwnSlip none s = s ∧
    (s.train.standing ≠ .contributing → ∀ b, takeOwnSlip (some b) s = s) ∧
    (s.train.standing = .contributing →
      takeOwnSlip (some false) s = { s with train := { s.train with slips := 0 } } ∧
      (s.train.slips < 2 → takeOwnSlip (some true) s = { s with train := { s.train with slips := s.train.slips + 1 } }) ∧
      (s.train.slips = 2 →
        (takeOwnSlip (some true) s).train = { s.train with slips := 3, standing := .desync } ∧
        (∀ f ∈ (takeOwnSlip (some true) s).link.queue, f.kind = .axle → s.link.attempt = some f.id))))
end

