-- ==== Sys2Proof/Laws/State.lean ====
section
/-! SUPPORT. One lemma per field for each named update of the state, true by rfl. -/

namespace Sys2Proof.Machine

/-! ### The quiet timer started (R8) -/

@[simp] theorem startQuietTimer_pending (s : State) : (startQuietTimer s).pending = s.pending := rfl

@[simp] theorem startQuietTimer_tick (s : State) : (startQuietTimer s).tick = s.tick := rfl

@[simp] theorem startQuietTimer_fe (s : State) : (startQuietTimer s).fe = s.fe := rfl

@[simp] theorem startQuietTimer_rc (s : State) :
    (startQuietTimer s).rc = { s.rc with quietTimer := timerFor s.tick s.quietTicks } := rfl

@[simp] theorem startQuietTimer_zero (s : State) : (startQuietTimer s).zero = s.zero := rfl

@[simp] theorem startQuietTimer_wheel (s : State) : (startQuietTimer s).wheel = s.wheel := rfl

@[simp] theorem startQuietTimer_pass (s : State) : (startQuietTimer s).pass = s.pass := rfl

@[simp] theorem startQuietTimer_link (s : State) : (startQuietTimer s).link = s.link := rfl

@[simp] theorem startQuietTimer_roster (s : State) : (startQuietTimer s).roster = s.roster := rfl

@[simp] theorem startQuietTimer_table (s : State) : (startQuietTimer s).table = s.table := rfl

@[simp] theorem startQuietTimer_asm (s : State) : (startQuietTimer s).asm = s.asm := rfl

@[simp] theorem startQuietTimer_pub (s : State) : (startQuietTimer s).pub = s.pub := rfl

@[simp] theorem startQuietTimer_train (s : State) : (startQuietTimer s).train = s.train := rfl

@[simp] theorem startQuietTimer_conf (s : State) : (startQuietTimer s).conf = s.conf := rfl

/-! ### The Front End powered up (R4) -/

@[simp] theorem powerUp_pending (s : State) : (powerUp s).pending = s.pending := rfl

@[simp] theorem powerUp_tick (s : State) : (powerUp s).tick = s.tick := rfl

@[simp] theorem powerUp_fe (s : State) :
    (powerUp s).fe = { s.fe with powered := true, settling := true, settleCount := 2048, settledMark := false } := rfl

@[simp] theorem powerUp_rc (s : State) : (powerUp s).rc = s.rc := rfl

@[simp] theorem powerUp_zero (s : State) : (powerUp s).zero = s.zero := rfl

@[simp] theorem powerUp_wheel (s : State) : (powerUp s).wheel = s.wheel := rfl

@[simp] theorem powerUp_pass (s : State) : (powerUp s).pass = s.pass := rfl

@[simp] theorem powerUp_link (s : State) : (powerUp s).link = s.link := rfl

@[simp] theorem powerUp_roster (s : State) : (powerUp s).roster = s.roster := rfl

@[simp] theorem powerUp_table (s : State) : (powerUp s).table = s.table := rfl

@[simp] theorem powerUp_asm (s : State) : (powerUp s).asm = s.asm := rfl

@[simp] theorem powerUp_pub (s : State) : (powerUp s).pub = s.pub := rfl

@[simp] theorem powerUp_train (s : State) : (powerUp s).train = s.train := rfl

@[simp] theorem powerUp_conf (s : State) : (powerUp s).conf = s.conf := rfl

/-! ### The Front End powered down (R9) -/

@[simp] theorem powerDown_pending (s : State) : (powerDown s).pending = s.pending := rfl

@[simp] theorem powerDown_tick (s : State) : (powerDown s).tick = s.tick := rfl

@[simp] theorem powerDown_fe (s : State) :
    (powerDown s).fe = { powered := false, settling := false, settleCount := 0, settledMark := false, pairRate := .dormant, pairDone := s.fe.pairDone } := rfl

@[simp] theorem powerDown_rc (s : State) : (powerDown s).rc = s.rc := rfl

@[simp] theorem powerDown_zero (s : State) : (powerDown s).zero = s.zero := rfl

@[simp] theorem powerDown_wheel (s : State) : (powerDown s).wheel = s.wheel := rfl

@[simp] theorem powerDown_pass (s : State) : (powerDown s).pass = s.pass := rfl

@[simp] theorem powerDown_link (s : State) : (powerDown s).link = s.link := rfl

@[simp] theorem powerDown_roster (s : State) : (powerDown s).roster = s.roster := rfl

@[simp] theorem powerDown_table (s : State) : (powerDown s).table = s.table := rfl

@[simp] theorem powerDown_asm (s : State) : (powerDown s).asm = s.asm := rfl

@[simp] theorem powerDown_pub (s : State) : (powerDown s).pub = s.pub := rfl

@[simp] theorem powerDown_train (s : State) : (powerDown s).train = s.train := rfl

@[simp] theorem powerDown_conf (s : State) : (powerDown s).conf = s.conf := rfl

/-! ### The open dwell discarded (R36, R41) -/

@[simp] theorem discardDwell_pending (s : State) : (discardDwell s).pending = s.pending := rfl

@[simp] theorem discardDwell_tick (s : State) : (discardDwell s).tick = s.tick := rfl

@[simp] theorem discardDwell_fe (s : State) : (discardDwell s).fe = s.fe := rfl

@[simp] theorem discardDwell_rc (s : State) : (discardDwell s).rc = s.rc := rfl

@[simp] theorem discardDwell_zero (s : State) : (discardDwell s).zero = s.zero := rfl

@[simp] theorem discardDwell_wheel (s : State) : (discardDwell s).wheel = { s.wheel with dwell := none } := rfl

@[simp] theorem discardDwell_pass (s : State) :
    (discardDwell s).pass = { s.pass with buffer := [], snapshot := none } := rfl

@[simp] theorem discardDwell_link (s : State) : (discardDwell s).link = s.link := rfl

@[simp] theorem discardDwell_roster (s : State) : (discardDwell s).roster = s.roster := rfl

@[simp] theorem discardDwell_table (s : State) : (discardDwell s).table = s.table := rfl

@[simp] theorem discardDwell_asm (s : State) : (discardDwell s).asm = s.asm := rfl

@[simp] theorem discardDwell_pub (s : State) : (discardDwell s).pub = s.pub := rfl

@[simp] theorem discardDwell_train (s : State) : (discardDwell s).train = s.train := rfl

@[simp] theorem discardDwell_conf (s : State) : (discardDwell s).conf = s.conf := rfl

/-! ### The own counter cleared (R34, R36) -/

@[simp] theorem clearCounter_pending (s : State) : (clearCounter s).pending = s.pending := rfl

@[simp] theorem clearCounter_tick (s : State) : (clearCounter s).tick = s.tick := rfl

@[simp] theorem clearCounter_fe (s : State) : (clearCounter s).fe = s.fe := rfl

@[simp] theorem clearCounter_rc (s : State) : (clearCounter s).rc = s.rc := rfl

@[simp] theorem clearCounter_zero (s : State) : (clearCounter s).zero = s.zero := rfl

@[simp] theorem clearCounter_wheel (s : State) :
    (clearCounter s).wheel = { s.wheel with counter := 0, prev := none } := rfl

@[simp] theorem clearCounter_pass (s : State) : (clearCounter s).pass = s.pass := rfl

@[simp] theorem clearCounter_link (s : State) : (clearCounter s).link = s.link := rfl

@[simp] theorem clearCounter_roster (s : State) : (clearCounter s).roster = s.roster := rfl

@[simp] theorem clearCounter_table (s : State) : (clearCounter s).table = s.table := rfl

@[simp] theorem clearCounter_asm (s : State) : (clearCounter s).asm = s.asm := rfl

@[simp] theorem clearCounter_pub (s : State) : (clearCounter s).pub = s.pub := rfl

@[simp] theorem clearCounter_train (s : State) : (clearCounter s).train = s.train := rfl

@[simp] theorem clearCounter_conf (s : State) : (clearCounter s).conf = s.conf := rfl

/-! ### The capture count and sums discarded (R16) -/

@[simp] theorem discardCapture_pending (s : State) : (discardCapture s).pending = s.pending := rfl

@[simp] theorem discardCapture_tick (s : State) : (discardCapture s).tick = s.tick := rfl

@[simp] theorem discardCapture_fe (s : State) : (discardCapture s).fe = s.fe := rfl

@[simp] theorem discardCapture_rc (s : State) : (discardCapture s).rc = s.rc := rfl

@[simp] theorem discardCapture_zero (s : State) :
    (discardCapture s).zero = { s.zero with count := 0, sumL := 0, sumR := 0 } := rfl

@[simp] theorem discardCapture_wheel (s : State) : (discardCapture s).wheel = s.wheel := rfl

@[simp] theorem discardCapture_pass (s : State) : (discardCapture s).pass = s.pass := rfl

@[simp] theorem discardCapture_link (s : State) : (discardCapture s).link = s.link := rfl

@[simp] theorem discardCapture_roster (s : State) : (discardCapture s).roster = s.roster := rfl

@[simp] theorem discardCapture_table (s : State) : (discardCapture s).table = s.table := rfl

@[simp] theorem discardCapture_asm (s : State) : (discardCapture s).asm = s.asm := rfl

@[simp] theorem discardCapture_pub (s : State) : (discardCapture s).pub = s.pub := rfl

@[simp] theorem discardCapture_train (s : State) : (discardCapture s).train = s.train := rfl

@[simp] theorem discardCapture_conf (s : State) : (discardCapture s).conf = s.conf := rfl

/-! ### One slot of the Consensus Table written -/

@[simp] theorem setSlot_pending (i : Fin 16) (sl : Slot) (s : State) : (setSlot i sl s).pending = s.pending := rfl

@[simp] theorem setSlot_tick (i : Fin 16) (sl : Slot) (s : State) : (setSlot i sl s).tick = s.tick := rfl

@[simp] theorem setSlot_fe (i : Fin 16) (sl : Slot) (s : State) : (setSlot i sl s).fe = s.fe := rfl

@[simp] theorem setSlot_rc (i : Fin 16) (sl : Slot) (s : State) : (setSlot i sl s).rc = s.rc := rfl

@[simp] theorem setSlot_zero (i : Fin 16) (sl : Slot) (s : State) : (setSlot i sl s).zero = s.zero := rfl

@[simp] theorem setSlot_wheel (i : Fin 16) (sl : Slot) (s : State) : (setSlot i sl s).wheel = s.wheel := rfl

@[simp] theorem setSlot_pass (i : Fin 16) (sl : Slot) (s : State) : (setSlot i sl s).pass = s.pass := rfl

@[simp] theorem setSlot_link (i : Fin 16) (sl : Slot) (s : State) : (setSlot i sl s).link = s.link := rfl

@[simp] theorem setSlot_roster (i : Fin 16) (sl : Slot) (s : State) : (setSlot i sl s).roster = s.roster := rfl

@[simp] theorem setSlot_table (i : Fin 16) (sl : Slot) (s : State) :
    (setSlot i sl s).table = { s.table with slots := s.table.slots.set i sl } := rfl

@[simp] theorem setSlot_asm (i : Fin 16) (sl : Slot) (s : State) : (setSlot i sl s).asm = s.asm := rfl

@[simp] theorem setSlot_pub (i : Fin 16) (sl : Slot) (s : State) : (setSlot i sl s).pub = s.pub := rfl

@[simp] theorem setSlot_train (i : Fin 16) (sl : Slot) (s : State) : (setSlot i sl s).train = s.train := rfl

@[simp] theorem setSlot_conf (i : Fin 16) (sl : Slot) (s : State) : (setSlot i sl s).conf = s.conf := rfl

/-! ### Every entry freed (R105) -/

@[simp] theorem freeAll_pending (s : State) : (freeAll s).pending = s.pending := rfl

@[simp] theorem freeAll_tick (s : State) : (freeAll s).tick = s.tick := rfl

@[simp] theorem freeAll_fe (s : State) : (freeAll s).fe = s.fe := rfl

@[simp] theorem freeAll_rc (s : State) : (freeAll s).rc = s.rc := rfl

@[simp] theorem freeAll_zero (s : State) : (freeAll s).zero = s.zero := rfl

@[simp] theorem freeAll_wheel (s : State) : (freeAll s).wheel = s.wheel := rfl

@[simp] theorem freeAll_pass (s : State) : (freeAll s).pass = s.pass := rfl

@[simp] theorem freeAll_link (s : State) : (freeAll s).link = s.link := rfl

@[simp] theorem freeAll_roster (s : State) : (freeAll s).roster = s.roster := rfl

@[simp] theorem freeAll_table (s : State) :
    (freeAll s).table = { s.table with slots := Vector.replicate 16 .free } := rfl

@[simp] theorem freeAll_asm (s : State) : (freeAll s).asm = s.asm := rfl

@[simp] theorem freeAll_pub (s : State) : (freeAll s).pub = s.pub := rfl

@[simp] theorem freeAll_train (s : State) : (freeAll s).train = s.train := rfl

@[simp] theorem freeAll_conf (s : State) : (freeAll s).conf = s.conf := rfl

/-! ### The Roster's release at a close (R85) -/

@[simp] theorem releaseRoster_pending (s : State) : (releaseRoster s).pending = s.pending := rfl

@[simp] theorem releaseRoster_tick (s : State) : (releaseRoster s).tick = s.tick := rfl

@[simp] theorem releaseRoster_fe (s : State) : (releaseRoster s).fe = s.fe := rfl

@[simp] theorem releaseRoster_rc (s : State) : (releaseRoster s).rc = s.rc := rfl

@[simp] theorem releaseRoster_zero (s : State) : (releaseRoster s).zero = s.zero := rfl

@[simp] theorem releaseRoster_wheel (s : State) : (releaseRoster s).wheel = s.wheel := rfl

@[simp] theorem releaseRoster_pass (s : State) : (releaseRoster s).pass = s.pass := rfl

@[simp] theorem releaseRoster_link (s : State) : (releaseRoster s).link = s.link := rfl

@[simp] theorem releaseRoster_roster (s : State) : (releaseRoster s).roster = s.roster.map releaseEntry := rfl

@[simp] theorem releaseRoster_table (s : State) : (releaseRoster s).table = s.table := rfl

@[simp] theorem releaseRoster_asm (s : State) : (releaseRoster s).asm = s.asm := rfl

@[simp] theorem releaseRoster_pub (s : State) : (releaseRoster s).pub = s.pub := rfl

@[simp] theorem releaseRoster_train (s : State) : (releaseRoster s).train = s.train := rfl

@[simp] theorem releaseRoster_conf (s : State) : (releaseRoster s).conf = s.conf := rfl

/-! ### One entry of the Publication Table written -/

@[simp] theorem setPubState_pending (v : Nat) (st : PubState) (s : State) :
    (setPubState v st s).pending = s.pending := rfl

@[simp] theorem setPubState_tick (v : Nat) (st : PubState) (s : State) : (setPubState v st s).tick = s.tick := rfl

@[simp] theorem setPubState_fe (v : Nat) (st : PubState) (s : State) : (setPubState v st s).fe = s.fe := rfl

@[simp] theorem setPubState_rc (v : Nat) (st : PubState) (s : State) : (setPubState v st s).rc = s.rc := rfl

@[simp] theorem setPubState_zero (v : Nat) (st : PubState) (s : State) : (setPubState v st s).zero = s.zero := rfl

@[simp] theorem setPubState_wheel (v : Nat) (st : PubState) (s : State) : (setPubState v st s).wheel = s.wheel := rfl

@[simp] theorem setPubState_pass (v : Nat) (st : PubState) (s : State) : (setPubState v st s).pass = s.pass := rfl

@[simp] theorem setPubState_link (v : Nat) (st : PubState) (s : State) : (setPubState v st s).link = s.link := rfl

@[simp] theorem setPubState_roster (v : Nat) (st : PubState) (s : State) :
    (setPubState v st s).roster = s.roster := rfl

@[simp] theorem setPubState_table (v : Nat) (st : PubState) (s : State) : (setPubState v st s).table = s.table := rfl

@[simp] theorem setPubState_asm (v : Nat) (st : PubState) (s : State) : (setPubState v st s).asm = s.asm := rfl

@[simp] theorem setPubState_pub (v : Nat) (st : PubState) (s : State) :
    (setPubState v st s).pub = setPub v st s.pub := rfl

@[simp] theorem setPubState_train (v : Nat) (st : PubState) (s : State) : (setPubState v st s).train = s.train := rfl

@[simp] theorem setPubState_conf (v : Nat) (st : PubState) (s : State) : (setPubState v st s).conf = s.conf := rfl

/-! ### The close timer restarted (R160) -/

@[simp] theorem restartClose_pending (s : State) : (restartClose s).pending = s.pending := rfl

@[simp] theorem restartClose_tick (s : State) : (restartClose s).tick = s.tick := rfl

@[simp] theorem restartClose_fe (s : State) : (restartClose s).fe = s.fe := rfl

@[simp] theorem restartClose_rc (s : State) : (restartClose s).rc = s.rc := rfl

@[simp] theorem restartClose_zero (s : State) : (restartClose s).zero = s.zero := rfl

@[simp] theorem restartClose_wheel (s : State) : (restartClose s).wheel = s.wheel := rfl

@[simp] theorem restartClose_pass (s : State) : (restartClose s).pass = s.pass := rfl

@[simp] theorem restartClose_link (s : State) : (restartClose s).link = s.link := rfl

@[simp] theorem restartClose_roster (s : State) : (restartClose s).roster = s.roster := rfl

@[simp] theorem restartClose_table (s : State) : (restartClose s).table = s.table := rfl

@[simp] theorem restartClose_asm (s : State) : (restartClose s).asm = s.asm := rfl

@[simp] theorem restartClose_pub (s : State) : (restartClose s).pub = s.pub := rfl

@[simp] theorem restartClose_train (s : State) :
    (restartClose s).train = { s.train with closeTimer := some (tickAfter s.tick (closeTicks (s.siteValue 0 Site.b3) s.closeSpeed)) } := rfl

@[simp] theorem restartClose_conf (s : State) : (restartClose s).conf = s.conf := rfl

/-! ### The tick count advanced (R1) -/

@[simp] theorem advanceTick_pending (s : State) : (advanceTick s).pending = s.pending := rfl

@[simp] theorem advanceTick_tick (s : State) : (advanceTick s).tick = s.tick + 1 := rfl

@[simp] theorem advanceTick_fe (s : State) : (advanceTick s).fe = tickFrontEnd s.rc.rate s.fe := rfl

@[simp] theorem advanceTick_rc (s : State) : (advanceTick s).rc = s.rc := rfl

@[simp] theorem advanceTick_zero (s : State) : (advanceTick s).zero = s.zero := rfl

@[simp] theorem advanceTick_wheel (s : State) : (advanceTick s).wheel = ageWheel (s.tick + 1) s.wheel := rfl

@[simp] theorem advanceTick_pass (s : State) : (advanceTick s).pass = s.pass := rfl

@[simp] theorem advanceTick_link (s : State) : (advanceTick s).link = s.link := rfl

@[simp] theorem advanceTick_roster (s : State) : (advanceTick s).roster = s.roster := rfl

@[simp] theorem advanceTick_table (s : State) : (advanceTick s).table = s.table := rfl

@[simp] theorem advanceTick_asm (s : State) : (advanceTick s).asm = s.asm := rfl

@[simp] theorem advanceTick_pub (s : State) : (advanceTick s).pub = s.pub := rfl

@[simp] theorem advanceTick_train (s : State) : (advanceTick s).train = s.train := rfl

@[simp] theorem advanceTick_conf (s : State) : (advanceTick s).conf = s.conf := rfl

end Sys2Proof.Machine
end

