-- ==== Sys2Proof/Laws/Ops.lean ====
section
/-! SUPPORT. What each shared operation can do, said once: which blocks it may change (`QueueFrame`,
`AssemblyFrame`, `TableFrame`), and what the transmit queue, the fault set, the hand-over and a frame command do in the
plain cases. -/

namespace Sys2Proof.Machine

/-! ### Frames -/

/-- `t` is `s` but for the Link Controller, the states of the Publication Table and the two frame references of the
Train Sequencer. -/
def QueueFrame (s t : State) : Prop :=
  ∃ l p o c, t = { s with link := l, pub := p, train := { s.train with openFrame := o, closeFrame := c } }

/-- `t` is `s` but for what a decision and a hand-over may change: those of `QueueFrame`, the Roster, the Consensus
Table, the Vehicle Assembler, the own standing and the own slip count. -/
def TableFrame (s t : State) : Prop :=
  ∃ l p o c r tb a st k, t = { s with link := l, pub := p, roster := r, table := tb, asm := a, train :=
    { s.train with openFrame := o, closeFrame := c, standing := st, slips := k } }

theorem QueueFrame.refl (s : State) : QueueFrame s s := ⟨s.link, s.pub, s.train.openFrame, s.train.closeFrame, rfl⟩

theorem QueueFrame.trans {s t u : State} (h : QueueFrame s t) (g : QueueFrame t u) : QueueFrame s u := by
  obtain ⟨l, p, o, c, rfl⟩ := h
  obtain ⟨l', p', o', c', rfl⟩ := g
  exact ⟨l', p', o', c', rfl⟩

theorem QueueFrame.table {s t : State} (h : QueueFrame s t) : TableFrame s t := by
  obtain ⟨l, p, o, c, rfl⟩ := h
  exact ⟨l, p, o, c, s.roster, s.table, s.asm, s.train.standing, s.train.slips, rfl⟩

theorem TableFrame.refl (s : State) : TableFrame s s := (QueueFrame.refl s).table

theorem TableFrame.trans {s t u : State} (h : TableFrame s t) (g : TableFrame t u) : TableFrame s u := by
  obtain ⟨l, p, o, c, r, tb, a, st, k, rfl⟩ := h
  obtain ⟨l', p', o', c', r', tb', a', st', k', rfl⟩ := g
  exact ⟨l', p', o', c', r', tb', a', st', k', rfl⟩

/-! ### Notices, the transmit queue, the fault set -/

theorem notify_frame (f : QFrame) (n : Notice) (s : State) : QueueFrame s (notify f n s) := by
  unfold notify
  cases f.kind
  case train => exact ⟨_, _, _, _, rfl⟩
  case vehicle => exact ⟨_, _, _, _, rfl⟩
  case dissent => exact ⟨_, _, _, _, rfl⟩
  all_goals exact QueueFrame.refl s

@[simp] theorem notify_link (f : QFrame) (n : Notice) (s : State) : (notify f n s).link = s.link := by
  unfold notify
  cases f.kind <;> rfl

theorem link_frame (s : State) (l : LinkControl) : QueueFrame s { s with link := l } := ⟨l, _, _, _, rfl⟩

theorem offer_frame (k : Kind) (seq : BitVec 6) (p : List Byte) (s : State) : QueueFrame s (offer k seq p s).1 := by
  unfold offer
  split
  · exact link_frame _ _
  · split
    · exact QueueFrame.refl s
    · exact (link_frame s _).trans ((notify_frame _ _ _).trans (link_frame _ _))

/-- A frame offered to a queue with room enters at its young end (R73). -/
theorem offer_room (k : Kind) (seq : BitVec 6) (p : List Byte) (s : State) (h : s.link.queue.length < 8) :
    offer k seq p s = ({ s with link := enqueue k seq p s.link }, some s.link.nextId) := by
  unfold offer
  exact if_pos h

/-- A full queue with no candidate of higher kind refuses the offer and stays as it is (R74). -/
theorem offer_refused (k : Kind) (seq : BitVec 6) (p : List Byte) (s : State) (h : 8 ≤ s.link.queue.length)
    (hv : victimFor k s.link = none) : offer k seq p s = (s, none) := by
  unfold offer
  rw [if_neg (by simpa [Config.queueSize] using h), hv]

theorem offerPresence_frame (s : State) : QueueFrame s (offerPresence s) := offer_frame _ _ _ _

theorem cancelFrame_frame (id : Nat) (s : State) : ∃ l, cancelFrame id s = { s with link := l } := by
  unfold cancelFrame
  split
  · split
    · exact ⟨_, rfl⟩
    · exact ⟨_, rfl⟩
  · exact ⟨s.link, rfl⟩

theorem foldCancel_frame (ids : List Nat) (s : State) :
    ∃ l, ids.foldl (fun s id => cancelFrame id s) s = { s with link := l } := by
  induction ids generalizing s with
  | nil => exact ⟨s.link, rfl⟩
  | cons id ids ih =>
    obtain ⟨l, h⟩ := cancelFrame_frame id s
    obtain ⟨l', h'⟩ := ih (cancelFrame id s)
    refine ⟨l', ?_⟩
    rw [List.foldl_cons, h', h]

/-- Cancelling the queued AXLE frames changes the Link Controller alone (R59). -/
theorem cancelAxles_frame (s : State) : ∃ l, cancelAxles s = { s with link := l } := foldCancel_frame _ s

/-- Setting a fault changes the fault set and, through the PRESENCE it may queue, what `QueueFrame` allows (R17,
R18). -/
theorem setFault_frame (f : StationFault) (s : State) :
    QueueFrame { s with pass := { s.pass with faults := s.pass.faults.insert f } } (setFault f s) := by
  unfold setFault
  split
  · exact offerPresence_frame _
  · exact QueueFrame.refl _

/-- A fault that joins a set already non-empty queues nothing (R18). -/
theorem setFault_joins (f : StationFault) (s : State) (h : s.pass.faults.isEmpty = false) :
    setFault f s = { s with pass := { s.pass with faults := s.pass.faults.insert f } } := by
  simp [setFault, h]

/-! ### Publication Table, Vehicle Assembler -/

theorem pub_frame (s : State) (p : List PubEntry) : QueueFrame s { s with pub := p } := ⟨_, p, _, _, rfl⟩

theorem dissentFrom_frame (v : Nat) (r : VehicleRecord) (peer : PeerRecord) (s : State) :
    QueueFrame s (dissentFrom v r peer s) := by
  have h := offer_frame .dissent (seqOf r.ordinal) (dissentPayload r peer.sender) s
  unfold dissentFrom offerDissent
  split
  · rename_i t id heq
    rw [heq] at h
    exact h.trans (pub_frame _ _)
  · rename_i t heq
    rw [heq] at h
    exact h.trans (pub_frame _ _)

theorem ownRecordNew_frame (r : VehicleRecord) (s : State) : QueueFrame s (ownRecordNew r s) := by
  have h := offer_frame .vehicle (seqOf r.ordinal) (vehiclePayload r)
    { s with pub := createPub ⟨r.ordinal, .dropped r none⟩ s.pub }
  unfold ownRecordNew offerVehicle
  dsimp only
  split
  · rename_i t id heq
    rw [heq] at h
    exact ((pub_frame s _).trans h).trans (pub_frame _ _)
  · rename_i t heq
    rw [heq] at h
    exact (pub_frame s _).trans h

theorem takeOwnRecord_frame (r : VehicleRecord) (s : State) : QueueFrame s (takeOwnRecord r s) := by
  unfold takeOwnRecord
  split
  · exact ownRecordNew_frame r s
  · split
    · split
      · exact pub_frame _ _
      · exact dissentFrom_frame _ _ _ _
    all_goals exact QueueFrame.refl s

theorem convertQueued_frame (own : VehicleRecord) (ref : Nat) (peer : PeerRecord) (s : State) :
    QueueFrame s (convertQueued own ref peer s) := by
  obtain ⟨l, h⟩ := cancelFrame_frame ref s
  unfold convertQueued
  rw [h]
  dsimp only
  split
  · exact (link_frame s l).trans (pub_frame _ _)
  · exact (link_frame s l).trans (dissentFrom_frame _ _ _ _)

theorem takePeerRecord_frame (peer : PeerRecord) (s : State) : QueueFrame s (takePeerRecord peer s) := by
  unfold takePeerRecord
  split
  · exact QueueFrame.refl s
  · split
    · exact pub_frame _ _
    · split
      · exact convertQueued_frame _ _ _ _
      all_goals exact QueueFrame.refl s

/-- `t` is `s` but for what an axle taken by the Vehicle Assembler may change: those of `QueueFrame` and the Vehicle
Assembler. The Consensus Table, the Roster and the standing stay. -/
def AssemblyFrame (s t : State) : Prop :=
  ∃ l p o c a, t = { s with link := l, pub := p, asm := a, train := { s.train with openFrame := o, closeFrame := c } }

theorem AssemblyFrame.refl (s : State) : AssemblyFrame s s :=
  ⟨s.link, s.pub, s.train.openFrame, s.train.closeFrame, s.asm, rfl⟩

theorem AssemblyFrame.trans {s t u : State} (h : AssemblyFrame s t) (g : AssemblyFrame t u) : AssemblyFrame s u := by
  obtain ⟨l, p, o, c, a, rfl⟩ := h
  obtain ⟨l', p', o', c', a', rfl⟩ := g
  exact ⟨l', p', o', c', a', rfl⟩

theorem AssemblyFrame.table {s t : State} (h : AssemblyFrame s t) : TableFrame s t := by
  obtain ⟨l, p, o, c, a, rfl⟩ := h
  exact ⟨l, p, o, c, s.roster, s.table, a, s.train.standing, s.train.slips, rfl⟩

theorem QueueFrame.assembly {s t : State} (h : QueueFrame s t) : AssemblyFrame s t := by
  obtain ⟨l, p, o, c, rfl⟩ := h
  exact ⟨l, p, o, c, s.asm, rfl⟩

theorem asm_frame (s : State) (a : Assembler) : AssemblyFrame s { s with asm := a } :=
  ⟨s.link, s.pub, s.train.openFrame, s.train.closeFrame, a, rfl⟩

theorem closeVehicle_frame (closing : VehicleFlags) (s : State) : AssemblyFrame s (closeVehicle closing s) := by
  unfold closeVehicle
  split
  · exact AssemblyFrame.refl s
  · exact (asm_frame s _).trans (takeOwnRecord_frame _ _).assembly

theorem openVehicle_frame (split : Bool) (a : VehicleAxle) (s : State) : AssemblyFrame s (openVehicle split a s) :=
  asm_frame s _

theorem appendAxle_frame (v : OpenVehicle) (g : List Nat) (u : Bool) (a : VehicleAxle) (s : State) :
    AssemblyFrame s (appendAxle v g u a s) := by
  unfold appendAxle
  dsimp only
  split
  · exact (asm_frame s _).trans ((closeVehicle_frame _ _).trans (asm_frame _ _))
  · exact asm_frame s _

theorem splitAt_frame (a : VehicleAxle) (s : State) : AssemblyFrame s (splitAt a s) :=
  (closeVehicle_frame _ _).trans (openVehicle_frame _ _ _)

theorem takeAxle_frame (a : ConsensusAxle) (s : State) : AssemblyFrame s (takeAxle a s) := by
  unfold takeAxle
  dsimp only
  split
  · exact openVehicle_frame _ _ _
  · split
    · unfold takeBogie
      split
      · exact appendAxle_frame _ _ _ _ _
      · split
        · exact appendAxle_frame _ _ _ _ _
        · exact splitAt_frame _ _
    · unfold takeBody
      split
      · exact appendAxle_frame _ _ _ _ _
      · exact splitAt_frame _ _
    · exact (closeVehicle_frame _ _).trans (openVehicle_frame _ _ _)
    · exact (closeVehicle_frame _ _).trans (openVehicle_frame _ _ _)

/-- Taking an axle leaves the Consensus Table as it is (R126). -/
@[simp] theorem takeAxle_table (a : ConsensusAxle) (s : State) : (takeAxle a s).table = s.table := by
  obtain ⟨l, p, o, c, x, h⟩ := takeAxle_frame a s
  rw [h]

/-- Closing a vehicle leaves the Consensus Table as it is (R136). -/
@[simp] theorem closeVehicle_table (closing : VehicleFlags) (s : State) : (closeVehicle closing s).table = s.table := by
  obtain ⟨l, p, o, c, x, h⟩ := closeVehicle_frame closing s
  rw [h]

/-! ### Consensus Table -/

theorem table_frame (s : State) (tb : ConsensusTable) : TableFrame s { s with table := tb } :=
  ⟨_, _, _, _, _, tb, _, _, _, rfl⟩

theorem handAxle_frame (a : ConsensusAxle) (s : State) : TableFrame s (handAxle a s) :=
  (table_frame s _).trans (takeAxle_frame _ _).table

theorem handEntry_frame (i : Fin 16) (a : ConsensusAxle) (s : State) : TableFrame s (handEntry i a s) :=
  (table_frame s _).trans (handAxle_frame _ _)

theorem handStep_frame {s t : State} (h : handStep s = some t) : TableFrame s t := by
  unfold handStep at h
  split at h
  · split at h
    · cases h; exact handEntry_frame _ _ _
    · cases h
    · cases h
  · split at h
    · cases h; exact handAxle_frame _ _
    · cases h

theorem handRun_frame (n : Nat) (s : State) : TableFrame s (handRun n s) := by
  induction n generalizing s with
  | zero => exact TableFrame.refl s
  | succ n ih =>
    unfold handRun
    split
    · exact TableFrame.refl s
    · rename_i t h
      exact (handStep_frame h).trans (ih t)

theorem handChain_frame (s : State) : TableFrame s (handChain s) := handRun_frame _ s

/-- With no hand-over due the chain changes nothing (R100, R101). -/
theorem handChain_settled (s : State) (h : handStep s = none) : handChain s = s := by
  unfold handChain
  generalize maxOf (decidedOrdinals s.table.slots) + 1 - s.table.nextExpected = n
  cases n with
  | zero => rfl
  | succ n => simp [handRun, h]

theorem takeOwnSlip_frame (r : Option Bool) (s : State) : TableFrame s (takeOwnSlip r s) := by
  unfold takeOwnSlip
  split
  · exact TableFrame.refl s
  · split
    · split
      · split
        · exact ⟨_, _, _, _, _, _, _, _, _, rfl⟩
        · obtain ⟨l, h⟩ := cancelAxles_frame { s with train := { s.train with slips := 3, standing := .desync } }
          rw [h]
          exact ⟨l, _, _, _, _, _, _, _, _, rfl⟩
      · exact ⟨_, _, _, _, _, _, _, _, _, rfl⟩
    · exact TableFrame.refl s

/-- An own slip result leaves the Consensus Table as it is (R112). -/
@[simp] theorem takeOwnSlip_table (r : Option Bool) (s : State) : (takeOwnSlip r s).table = s.table := by
  unfold takeOwnSlip
  split
  · rfl
  · split
    · split
      · split
        · rfl
        · obtain ⟨l, h⟩ := cancelAxles_frame { s with train := { s.train with slips := 3, standing := .desync } }
          rw [h]
      · rfl
    · rfl

/-- A decision changes what `TableFrame` allows and nothing else (R98). -/
theorem decideEntry_frame (i : Fin 16) (c : Collecting) (t : Trigger) (s : State) :
    TableFrame s (decideEntry i c t s) := by
  have h : TableFrame s (reportDecision c { (setSlot i (.decided c (decideAxle s.decisionSettings c t)) s) with
      table := { (setSlot i (.decided c (decideAxle s.decisionSettings c t)) s).table with
        latestSpeed := some (decideAxle s.decisionSettings c t).speed } }) := ⟨_, _, _, _, _, _, _, _, _, rfl⟩
  exact h.trans (takeOwnSlip_frame _ _)

theorem forcedStep_frame (s : State) : TableFrame s (forcedStep s) := by
  unfold forcedStep
  split
  · exact handAxle_frame _ _
  · split
    · exact (decideEntry_frame _ _ _ _).trans (handEntry_frame _ _ _)
    · exact handEntry_frame _ _ _
    · exact TableFrame.refl s

theorem forceAdvance_frame (n a : Nat) (s : State) : TableFrame s (forceAdvance n a s) := by
  induction n generalizing s with
  | zero => exact TableFrame.refl s
  | succ n ih =>
    unfold forceAdvance
    split
    · exact ((forcedStep_frame s).trans (handChain_frame _)).trans (ih _)
    · exact TableFrame.refl s

theorem handUpTo_frame (n last : Nat) (s : State) : TableFrame s (handUpTo n last s) := by
  induction n generalizing s with
  | zero => exact TableFrame.refl s
  | succ n ih =>
    unfold handUpTo
    split
    · exact (forcedStep_frame s).trans (ih _)
    · exact TableFrame.refl s

theorem flushTo_frame (last : Nat) (s : State) : TableFrame s (flushTo last s) := handUpTo_frame _ _ _

theorem storeAt_frame (i : Fin 16) (c : Collecting) (p : Pos) (q : Partial) (s : State) :
    TableFrame s (storeAt i c p q s) := by
  unfold storeAt
  dsimp only
  split
  · exact (decideEntry_frame _ _ _ _).trans (handChain_frame _)
  · exact table_frame s _

theorem storeInWindow_frame (p : Pos) (q : Partial) (s : State) : TableFrame s (storeInWindow p q s) := by
  unfold storeInWindow
  split
  · split
    · exact storeAt_frame _ _ _ _ _
    · exact TableFrame.refl s
    · exact TableFrame.refl s
  · split
    · exact TableFrame.refl s
    · exact (table_frame s _).trans (storeAt_frame _ _ _ _ _)

/-- Taking a contribution changes what `TableFrame` allows and nothing else (R91 to R96). -/
theorem takeContribution_frame (p : Pos) (q : Partial) (s : State) : TableFrame s (takeContribution p q s) := by
  unfold takeContribution
  split
  · split
    · exact TableFrame.refl s
    · exact (forceAdvance_frame _ _ s).trans (storeInWindow_frame _ _ _)
  · exact TableFrame.refl s

/-- Handing a partial on changes what `TableFrame` allows and nothing else (R56). -/
theorem handOn_frame (q : Partial) (s : State) : TableFrame s (handOn q s) := by
  unfold handOn
  split
  · exact (offer_frame _ _ _ _).table.trans (takeContribution_frame _ _ _)
  · exact TableFrame.refl s

/-! ### Commands -/

/-- A station in STRAP_FAULT takes no command but power-on reset (R167). -/
theorem inService_strapFault (f : State → State) (s : State) (h : s.strapFault = true) :
    inService f s = .next s := by
  simp [inService, h]

/-- A station in service takes the command (R167). -/
theorem inService_next (f : State → State) (s : State) (h : s.strapFault = false) :
    inService f s = .next (f s) := by
  simp [inService, h]

/-- A report is accepted exactly when its hold is clear or has ended (R22). -/
theorem holdEnded_iff (s : State) (d : Detector) : holdEnded s.tick (s.wheel.hold d) = true ↔ s.holdOver d := by
  unfold holdEnded State.holdOver
  cases s.wheel.hold d with
  | none => simp
  | some e =>
    simp only [tickLater, ticksSince, Config.maxInterval, Bool.and_eq_true, Option.some.injEq, forall_eq']
    exact and_congr decide_eq_true_iff decide_eq_true_iff

/-- The station judges that a tick has been reached as the statements say it (R1). -/
theorem tickReached_iff (s : State) (e : Tick) : tickReached s.tick e = true ↔ s.reached e := by
  unfold tickReached State.reached ticksSince
  exact decide_eq_true_iff

/-! ### Receiving a frame -/

/-- A frame whose start mark the station has taken reaches the receive checks (R64, R68). -/
theorem receiveFrame_listening (k : Kind) (f : RxFrame) (d : State → State) (s : State) (h : s.listening) :
    receiveFrame k f d s = if f.wf then checkFrame k f d s.received else s.received := by
  rcases h with h | ⟨h, g⟩
  · simp [receiveFrame, otherPartyStartMark, State.listens, State.received, h]
  · have e : 11 ≤ countRecessive s.link.recessive 0 := by simpa [countRecessive, Config.idleBits] using g
    simp [receiveFrame, otherPartyStartMark, State.listens, State.received, h, e, Config.idleBits]

/-- A frame that began before 11 recessive bit times were counted only ends the run (R64). -/
theorem receiveFrame_early (k : Kind) (f : RxFrame) (d : State → State) (s : State) (h : s.link.state = .idle)
    (g : s.link.recessive < 11) : receiveFrame k f d s = { s with link := { s.link with recessive := 0 } } := by
  have e : ¬ 11 ≤ countRecessive s.link.recessive 0 := by simpa [countRecessive, Config.idleBits] using g
  simp [receiveFrame, otherPartyStartMark, State.listens, h, e, Config.idleBits]

/-- A station that contends or sends receives nothing (R68). -/
theorem receiveFrame_driving (k : Kind) (f : RxFrame) (d : State → State) (s : State)
    (h : s.link.state = .contending ∨ s.link.state = .sending) : receiveFrame k f d s = s := by
  rcases h with h | h <;> simp [receiveFrame, otherPartyStartMark, State.listens, h]

end Sys2Proof.Machine
end

