-- ==== Sys2Proof/Tests/Slice0.lean ====
section
/-! SUPPORT. The model's own tests. The first part checks single operations against figures that stand in spec/ (each
test names its table or worked case); the second shows, for each statement of
Sys2Proof/Certificates/Slice0/Obligations.lean that has hypotheses, concrete states and operands that meet them. -/

namespace Sys2Proof.Tests

open Sys2Proof Sys2Proof.Machine

/-! ### Helpers -/

/-- The state after a command. -/
def after (c : Instr) (s : State) : State :=
  match exec c s with
  | .next t => t
  | .fault _ => s
  | .refused _ => s

/-- A frame with a good check. -/
def rx (k : Kind) (p : Pos) (payload : List Byte) (rosterLast : Bool := false) : RxFrame :=
  { position := p, sequence := 0, payload := payload, check := frameCheck k p 0 payload, rosterLast := rosterLast }

theorem rx_accepts (s : State) (k : Kind) (p : Pos) (payload : List Byte) (b : Bool)
    (h : payload.length = payloadLength k) (g : 3 ≤ kindValue k → p.val < s.conf.straps.count ∧ p ≠ s.own) :
    s.accepts k (rx k p payload b) := ⟨h, rfl, g⟩

/-- The SITE of the worked cases: B1 = 250, B2 = 500, B3 = 2,000, debounce 200, mask UNSETTLED, quorum 3, spread limit
10, agree tolerance 20, quiet timeout 30 s, refresh interval 600 s. -/
def site5 : Site :=
  { b1 := 250, b2 := 500, b3 := 2000, debounce := 200, k := 8, mask := 64, quorum := 3, overload := 250,
    imbalance := 20, impact := 150, agree := 20, spread := 10, quiet := 30, refresh := 600 }

/-- A CALIBRATE with a tracking band of 5 counts. -/
def cal5 : Calibrate :=
  { spanL := ⟨1000, 10⟩, spanR := ⟨1000, 10⟩, rounding := .nearest, capture := false, zeroL := 1200, zeroR := 1200,
    warn := 20, limit := 60, band := 5 }

/-- Station 2 of a five-station zone with L = 1,200 mm, READY, nothing queued, the pair idle for 11 bit times. -/
def base : State :=
  { State.reset with
    conf := { straps := ⟨2, 4, 6⟩, cal := some cal5, site := some site5, lastRefusal := .none }
    link := { State.reset.link with queue := [], recessive := 11 } }

/-- The same station in a running UP train. -/
def running : State :=
  { base with
    rc := { base.rc with rate := .active }
    train := { base.train with state := .running, standing := .contributing, closeTimer := some 491520, number := 1 } }

/-- The same station in BLANK. -/
def blank : State := { base with conf := { base.conf with cal := none, site := none } }

/-- A frame of the station in its queue. -/
def frame (id : Nat) (k : Kind) : QFrame := ⟨id, k, 0, List.replicate (payloadLength k) 0⟩

/-- The station with a frame in attempt. -/
def sending (st : LinkState) (cancelled : Bool) (attempts : Nat) : State :=
  { base with link := { base.link with
    state := st, queue := [frame 3 .presence, frame 4 .train], attempt := some 4, cancelled := cancelled
    counted := some 4
    attempts := attempts
    nextId := 5 } }

/-- A partial of one position. -/
def part (l r v : Nat) (spacing : Option Nat) (flags : FlagSet) : Partial :=
  { ordinal := 52, dir := .up, loads := some ⟨l, r⟩, speed := some v, spacing := spacing, flags := flags }

/-- The entry of the worked case of 07_consensus_arithmetic.md. -/
def worked52 : Collecting :=
  { ordinal := 52
    contribs := #v[some (part 17610 17470 2224 (some 199) 64), some (part 17601 17488 2224 (some 200) 0),
                   some (part 17590 17497 2226 (some 199) 0), some (part 17120 16990 2220 (some 310) 0),
                   some (part 17580 17510 2224 none 256), none, none, none]
    expected := #v[true, true, true, true, true, false, false, false] }

/-- The settings of that case. -/
def settings52 : DecisionSettings := ⟨64, 3, 10, 5⟩

/-- A vehicle record of the worked table of R144. -/
def record5 : VehicleRecord :=
  { ordinal := 5, trainNo := 42, firstAxle := 17, axleCount := 4, groups := [2, 2], left := 70000, right := 69972,
    gross := 139972, speed := some 2224, flags := {}, summary := 0 }

/-- A peer record of that table. -/
def peer5 (first gross count : Nat) (sizes : List Nat) : PeerRecord :=
  { sender := 0, ordinal := 5, trainNo := 1, firstAxle := first, axleCount := 4, groupCount := count, sizes := sizes,
    gross := gross, left := 70000, speed := none, flags := {}, summary := 0 }

/-! ### Well-formed commands -/

theorem test_wf_frame_length :
    (rx .axle 0 (List.replicate 25 0)).wf = false ∧ (rx .axle 0 (List.replicate 24 0)).wf = true := by decide

theorem test_wf_sender_error_run :
    Instr.wf (.senderError 10) = false ∧ Instr.wf (.senderError 11) = false ∧ Instr.wf (.senderError 9) = true ∧
    Instr.wf (.senderError 12) = true := by decide

theorem test_wf_frame_broken_runs :
    Instr.wf (.frameBroken .ninthRecessive 8) = false ∧ Instr.wf (.frameBroken .ninthRecessive 9) = true ∧
    Instr.wf (.frameBroken .missingFillBit 8) = false ∧ Instr.wf (.frameBroken .missingFillBit 9) = true ∧
    Instr.wf (.frameBroken .missingEndMark 0) = false ∧ Instr.wf (.frameBroken .missingEndMark 9) = false ∧
    Instr.wf (.frameBroken .overlongLength 9) = false ∧ Instr.wf (.frameBroken .overlongLength 0) = true := by decide

theorem test_wf_train_subtypes :
    Instr.wf (.trainOpenFrame (rx .train 0 [2, 0, 0, 0, 0, 0, 0, 0])) = false ∧
    Instr.wf (.trainReversalFrame (rx .train 0 [1, 0, 0, 0, 0, 0, 0, 0])) = false ∧
    Instr.wf (.trainCloseFrame (rx .train 0 [2, 0, 0, 0, 0, 0, 0, 0])) = false ∧
    Instr.wf (.trainCloseFrame (rx .train 0 [3, 0, 0, 0, 0, 0, 0, 0])) = true := by decide

/-! ### Figures of the spec -/

/-- The table of R32. -/
theorem test_speed_table :
    dwellSpeed 1200 0 = 65535 ∧ dwellSpeed 1200 15 = 65535 ∧ dwellSpeed 1200 16 = 61440 ∧ dwellSpeed 1200 442 = 2224 ∧
    dwellSpeed 1200 4420 = 222 ∧ dwellSpeed 1200 983040 = 1 ∧ dwellSpeed 1200 983041 = 0 ∧ dwellSpeed 600 221 = 2224 ∧
    dwellSpeed 2100 774 = 2222 := by decide

/-- Axle 2 of the worked sequence of chapter 2: entries 10,000 and 10,735 at 2,224 cm/s. -/
theorem test_spacing_worked :
    axleSpacing ⟨2, 10735, false, false⟩ 2224 (some ⟨10000, some 2224, false⟩) = some 199 := by decide

/-- The table of R42. -/
theorem test_guard_table :
    (guardTicks 5, guardTicks 8, guardTicks 221, guardTicks 442, guardTicks 774, guardTicks 70000) =
      (0, 1, 27, 55, 96, 8191) ∧ effectiveDwell 70000 = 65535 := by decide

/-- The table of R45, each quotient written as a fraction. -/
theorem test_rounding_table :
    roundHalfEven 1764166 100 = 17642 ∧ roundHalfEven 35283 2 = 17642 ∧ roundHalfEven 35285 2 = 17642 ∧
    truncDiv 35283 2 = 17641 ∧ truncDiv 35285 2 = 17642 ∧ roundHalfEven (-1) 2 = 0 ∧ roundHalfEven (-3) 4 = -1 ∧
    truncDiv (-3) 4 = 0 ∧ roundHalfEven 131071 2 = 65536 := by decide

/-- The table of R116. -/
theorem test_mean_table :
    roundMean [17601, 17590] = 17596 ∧ roundMean [17488, 17497] = 17492 ∧ roundMean [52933, 0, 0] = 17644 ∧
    roundMean [70002, 0, 0, 0] = 17500 ∧ roundMean [105003, 0, 0, 0, 0, 0] = 17500 ∧
    roundMean [105009, 0, 0, 0, 0, 0] = 17502 := by decide

/-- The worked decision of chapter 7. -/
theorem test_worked_decision :
    let a := decideAxle settings52 worked52 .deadline
    a.loads = some ⟨17596, 17492⟩ ∧ a.speed = some 2223 ∧ a.spacing = some 199 ∧ a.noted = 64 + 256 ∧
    a.flags = { lowQuorum := true, slipped := true, timedOut := true } := by decide

/-- The deadlines of R96 and of the worked sequence of chapter 6. -/
theorem test_deadlines :
    deadlineTicks 1200 3 (some 2224) = 1736 ∧ deadlineTicks 1200 4 (some 2224) = 2178 ∧
    deadlineTicks 1200 3 (some 16) = 184730 ∧ deadlineTicks 1200 4 (some 16) = 245760 := by decide

/-- The table of R160. -/
theorem test_close_timer_table :
    closeTicks 2000 none = 491520 ∧ closeTicks 2000 (some 33) = 491520 ∧ closeTicks 2000 (some 100) = 163840 ∧
    closeTicks 2000 (some 500) = 32768 ∧ closeTicks 2000 (some 2224) = 16384 := by decide

/-- The table of R125. -/
theorem test_class_table :
    [none, some 0, some 185, some 249].map (classOf 250 500 2000) = [.coupling, .bogie, .bogie, .bogie] ∧
    [some 250, some 310, some 499, some 500].map (classOf 250 500 2000) = [.coupling, .coupling, .coupling, .body] ∧
    [some 1020, some 1999, some 2000, some 65535].map (classOf 250 500 2000) = [.body, .body, .gap, .gap] := by decide

/-- The tracking table of section 1.3: z256 = 307,200, k = 8, band 4. -/
theorem test_tracking_table :
    (trackChannel 4 8 20 60 1202 ⟨307200, 307200, .ok⟩).z256 = 307202 ∧
    (trackChannel 4 8 20 60 1199 ⟨307202, 307200, .ok⟩).z256 = 307201 ∧
    (trackChannel 4 8 20 60 1210 ⟨307201, 307200, .ok⟩).z256 = 307201 ∧
    (trackChannel 4 8 20 60 8388607 ⟨307201, 307200, .ok⟩).z256 = 307201 ∧
    (trackChannel 4 8 20 60 1200 ⟨307201, 307200, .ok⟩).z256 = 307201 := by decide

/-- The agreement table of R144. -/
theorem test_agreement_table :
    agree 20 record5 (peer5 17 139980 2 [2, 2, 1]) = true ∧ agree 20 record5 (peer5 17 140172 2 [2, 2, 1]) = true ∧
    agree 20 record5 (peer5 17 140173 2 [2, 2, 1]) = false ∧
    agree 20 record5 (peer5 17 139972 3 [1, 1, 2]) = false ∧
    agree 20 record5 (peer5 18 139972 2 [2, 2, 1]) = false := by decide

/-- The worked encoding of chapter 12: label 2,065, flags word 16,384. -/
theorem test_axle_encoding :
    labelOf .axle 0 (seqOf 17) = 2065 ∧
    axlePayload { ordinal := 17, dir := .up, loads := some ⟨17642, 17310⟩, speed := some 2224, spacing := some 199,
                  flags := 0 } = [0, 17, 68, 234, 67, 158, 8, 176, 0, 199, 64, 0] := by decide

/-- A fill bit follows eight recessive bits, and a frame in progress is no command yet (R61, R68). -/
theorem test_fill_bits :
    fill 0 (List.replicate 9 true) = List.replicate 8 true ++ [false, true] ∧ receiveBits [false, true] = none := by
  decide

/-! ### Commands, one step each -/

/-- An idle station with nothing due counts a tick (R1). -/
theorem test_idle_step : (match step State.reset with
    | .next t => t.tick == 1 && t.fe.settleCount == 2047
    | .fault _ => false
    | .refused _ => false) = true := by decide

/-- Row 1 of the worked sequence of chapter 2: the train opens UP, axle 1 opens, hold A until 10,199. -/
theorem test_detector_opens :
    let t := after (.detectorEvent .a .up) { base with tick := 10000 }
    t.train.state = .running ∧ t.wheel.counter = 1 ∧ t.wheel.dwell = some ⟨1, 10000, false, false⟩ ∧
    t.wheel.holdA = some 10199 ∧ t.link.queue.map QFrame.kind = [.train] := by decide

/-- The broken dwell of that sequence: axle 3 broken at 17,470. -/
theorem test_detector_breaks :
    let s := { running with tick := 17470, wheel := { running.wheel with
      counter := 3, dwell := some ⟨3, 16735, false, false⟩, prev := some ⟨10735, some 2224, false⟩ } }
    let t := after (.detectorEvent .a .up) { s with pass := { s.pass with snapshot := some (s.entrySnapshot 3) } }
    t.wheel.counter = 4 ∧ t.wheel.prev = some ⟨16735, none, false⟩ ∧ t.link.queue.head?.map QFrame.kind = some .axle := by
  decide

/-- The reversal of that sequence: ordinal 5. -/
theorem test_detector_reverses :
    let t := after (.detectorEvent .b .down)
      { running with tick := 18400, wheel := { running.wheel with counter := 4 } }
    t.train.state = .abandoned ∧ t.wheel.counter = 0 ∧ t.wheel.holdB = some 18599 ∧
    t.link.queue.head?.map QFrame.payload = some [2, 0, 1, 0, 5, 0, 0, 0] := by decide

/-- The timer table of chapter 1: expiry at 1,245,760, dormant entry to 1,245,824, refresh at 6,161,024. -/
theorem test_quiet_and_dormant :
    let s := { base with tick := 1245760, rc := { base.rc with quietTimer := some 1245760 } }
    let t := after .quietTimerExpiry s
    let u := after .dormantEntryComplete { t with tick := 1245824 }
    t.rc.dormantEntry = some 1245824 ∧ u.rc.rate = .dormant ∧ u.fe.powered = false ∧
    u.rc.refreshTimer = some 6161024 := by decide

/-- A refused and an accepted SITE of the worked commissioning of chapter 11. -/
theorem test_site_commissioning :
    let refused := after (.siteFrame (rx .site 0 [0,0,0,0,0,0,0,0,0,0,0,0,11,50,200,0,137,1,0,0])) blank
    let held := after (.siteFrame (rx .site 0 [0,0,0,0,0,0,0,0,0,0,0,0,25,50,200,0,137,1,0,0])) blank
    refused.conf.lastRefusal = .siteRefused ∧ held.configState = .listening ∧
    held.conf.site.map (fun x => (x.b1, x.quorum, x.debounce, x.impact)) = some (250, 5, 8, 100) := by decide +kernel

/-- A CALIBRATE with warn above limit is refused (R169). -/
theorem test_calibrate_refused :
    (after (.calibrateFrame (rx .calibrate 2 [3,232,10,3,232,10,0,0,0,0,0,0,0,0,0,60,0,20,0,5])) blank).conf.lastRefusal =
      .calRefused := by decide +kernel

/-- One row of the worked sequence of chapter 5: the second miss in a row becomes the third, and SILENT. -/
theorem test_third_miss :
    reportPresence false ⟨.live, true, 2, 0⟩ = ⟨.silent, true, 3, 0⟩ ∧
    reportSlip true ⟨.live, true, 0, 2⟩ = ⟨.desync, true, 0, 3⟩ := by decide

/-- R64: a frame that began before 11 recessive bit times were counted is not received, one after them is. -/
theorem test_frame_needs_idle :
    let f := rx .presence 0 [68, 0, 0, 0, 0, 0, 0, 0]
    let on := after (.powerOnReset 2 4 6) base
    (after (.presenceFrame f) (after (.otherPartyStartMark 5) on)).rc.linkWake = false ∧
    (after (.presenceFrame f) (after (.otherPartyStartMark 11) on)).rc.linkWake = true ∧
    (after (.presenceFrame f) (after (.senderError 9) (sending .sending false 0))).rc.linkWake = false ∧
    (after (.presenceFrame f) (after .arbitrationLost (sending .contending false 0))).rc.linkWake = true := by
  decide +kernel

/-- The forced advance of chapter 6 moves the window from 30 to 32 for ordinal 47. -/
theorem test_forced_advance :
    let s := { running with table := { running.table with nextExpected := 30, highestOpened := 45 } }
    let t := after (.axleFrame (rx .axle 0 [0, 47, 0, 0, 0, 0, 8, 176, 0, 0, 0, 1])) s
    t.table.nextExpected = 32 ∧ t.table.highestOpened = 47 ∧ t.table.handedCount = 2 := by decide +kernel

/-! ### Hypotheses that are met -/

/-- No command but power-on reset is one. -/
theorem not_power_on : ¬ isPowerOn .settlingComplete ∧ ¬ isPowerOn (.detectorEvent .a .up) := by
  constructor <;> rintro ⟨_, _, _, h⟩ <;> cases h

/-- A CALIBRATE for station 2 that passes every check, and a SITE. -/
def goodCalibrate : RxFrame := rx .calibrate 2 [3, 232, 10, 3, 232, 10, 0, 0, 0, 4, 176, 0, 4, 176, 0, 20, 0, 60, 0, 5]

/-- A SITE that passes every check on a section of 1,200 mm. -/
def goodSite : RxFrame := rx .site 0 [0, 0, 0, 0, 0, 0, 0, 0, 0, 0, 0, 0, 25, 50, 200, 0, 137, 1, 0, 0]

theorem witness_IdleStep : State.reset.pending = [] ∧ State.reset.dueEvents = [] ∧
    ({ base with rc := { base.rc with linkWake := true } } : State).dueEvents = [.wakeEvent .link] ∧
    base.strapFault = false ∧ ({ base with conf := { base.conf with straps := ⟨5, 4, 6⟩ } } : State).strapFault = true := by
  decide

theorem witness_CommandsAnswer :
    ({ base with conf := { base.conf with straps := ⟨5, 4, 6⟩ } } : State).strapFault = true ∧
    ¬ isPowerOn .settlingComplete ∧ exec .settlingComplete base = .next base := ⟨by decide, not_power_on.1, rfl⟩

theorem witness_TrainNumberRule :
    exec (.detectorEvent .a .up) base = .next (after (.detectorEvent .a .up) base) ∧
    ¬ isPowerOn (.detectorEvent .a .up) ∧ base.train.state = .noTrain ∧
    (after (.detectorEvent .a .up) base).train.state ≠ .noTrain := ⟨rfl, not_power_on.2, rfl, by decide⟩

theorem witness_StandingHolds : exec .settlingComplete running = .next running ∧ ¬ isPowerOn .settlingComplete ∧
    running.train.state ≠ .noTrain := ⟨rfl, not_power_on.1, by decide⟩

theorem witness_ZeroWrites : exec (.calibrateFrame goodCalibrate) blank = .next (after (.calibrateFrame goodCalibrate) blank) ∧
    (after (.calibrateFrame goodCalibrate) blank).zero.left.zcal256 ≠ blank.zero.left.zcal256 ∧
    exec .settlingComplete running = .next running ∧ running.train.state ≠ .noTrain ∧ running.conf.cal ≠ none :=
  ⟨rfl, by decide +kernel, rfl, by decide, by decide⟩

theorem witness_SettingsLocked :
    base.conf.cal = some cal5 ∧ base.conf.site = some site5 ∧ exec .settlingComplete base = .next base ∧
    blank.conf.cal = none ∧ (after (.calibrateFrame goodCalibrate) blank).conf.cal.isSome = true ∧
    blank.conf.site = none ∧ (after (.siteFrame goodSite) blank).conf.site.isSome = true :=
  ⟨rfl, rfl, rfl, rfl, by decide +kernel, rfl, by decide +kernel⟩

theorem witness_QueueInvKept :
    QueueInv (sending .sending false 3).link ∧ ∃ t, step (sending .sending false 3) = .next t := by
  refine ⟨⟨by decide, by decide, by decide, by decide, by decide, ?_, by decide, by decide, ?_, ?_, by decide, by decide⟩,
    _, rfl⟩ <;> intro id h <;> cases h <;> decide

theorem witness_RateInvKept : RateInv running ∧ ∃ t, step running = .next t :=
  ⟨⟨by decide, by decide, by decide, by decide, by decide, by decide, by decide, by decide, by decide⟩, _, rfl⟩

theorem witness_ZeroInvKept : ZeroInv running.zero ∧ ∃ t, step running = .next t := by
  refine ⟨⟨?_, ?_, by decide, by decide⟩, _, rfl⟩ <;> unfold inZeroRange <;> decide

theorem witness_RosterInvKept : RosterInv running ∧ ∃ t, step running = .next t :=
  ⟨⟨by decide, by decide, by decide⟩, _, rfl⟩

theorem witness_AssemblerInvKept : AssemblerInv running.asm ∧ ∃ t, step running = .next t :=
  ⟨⟨by decide, (by intro v h; cases h)⟩, _, rfl⟩

theorem witness_PublicationInvKept : PublicationInv [⟨5, .sent record5⟩, ⟨6, .sent record5⟩] ∧
    ∃ t, step { running with pub := [⟨5, .sent record5⟩, ⟨6, .sent record5⟩] } = .next t :=
  ⟨⟨by decide, by decide⟩, _, rfl⟩

/-- Every slot of the running station is FREE. -/
theorem running_free : ∀ i : Fin 16, running.table.slots[i] = .free := by decide

theorem witness_TableInvKept : TableInv running ∧ ∃ t, step running = .next t := by
  refine ⟨⟨by decide, by decide, (by intro n h; cases h), ?_, ?_, ?_, ?_, by decide, fun _ => running_free⟩, _, rfl⟩
  · intro i a h; rw [running_free i] at h; cases h
  · intro i j a h; rw [running_free i] at h; cases h
  · intro i c d h; rw [running_free i] at h; cases h
  · intro i c a h; rw [running_free i] at h; cases h

theorem witness_FrameReadsBack : (List.replicate 24 (255 : Byte)).length ≤ 24 ∧ ([] : List Byte).length ≤ 24 := by decide

/-- The first and the last bit of each part of a PRESENCE frame of eight bytes. -/
theorem witness_WireForm : (0 : Nat) < 12 ∧ 11 < 12 ∧ 0 < 5 ∧ 4 < 5 ∧ (List.replicate 8 (129 : Byte))[0]? = some 129 ∧
    (List.replicate 8 (129 : Byte))[7]? = some 129 ∧ 0 < 8 ∧ 7 < 8 ∧ 0 < 16 ∧ 15 < 16 := by decide

/-- Partials at the ends of their ranges, with everything present and with everything absent. -/
theorem witness_ContentsReadBack :
    PartialWf ⟨65535, .down, some ⟨65535, 0⟩, some 65535, some 0, 0⟩ ∧
    PartialWf ⟨1, .up, none, none, none, flagWhen true .noSamples ||| flagWhen true .brokenDwell⟩ ∧
    RecordWf { record5 with ordinal := 4095, axleCount := 12, groups := [4, 4, 4], gross := 1572840, speed := some 65534 } ∧
    RecordWf { record5 with groups := [1], speed := none } := by
  refine ⟨⟨by decide, ?_, by decide, ?_, by decide, ?_⟩, ⟨by decide, ?_, by decide, ?_, by decide, ?_⟩,
    ⟨by decide, by decide, by decide, by decide, by decide, by decide, ?_⟩,
    ⟨by decide, by decide, by decide, by decide, by decide, by decide, ?_⟩⟩ <;> intro x h <;> cases h <;> decide

theorem witness_LabelsAndStatusReadBack : kindValue .train < kindValue .presence ∧ 255 < 256 ∧ 65535 < 65536 := by decide

/-- One pair of a dwell that opened at tick 0. -/
def pair5 : Pair := { stamp := 60, left := 9000, right := 8900, settled := true }

/-- A calibrated snapshot of tick 0. -/
def snap5 : Snapshot :=
  { ordinal := 1, entry := 0, zL := 307200, zR := 307200, zstateL := .ok, zstateR := .ok,
    weighing := some ⟨⟨1000, 10⟩, ⟨1000, 10⟩, .nearest⟩ }

theorem witness_WheelLoads : snap5.weighing = some ⟨⟨1000, 10⟩, ⟨1000, 10⟩, .nearest⟩ ∧ [pair5] ≠ [] := by decide

theorem witness_QualityChecks : snap5.weighing = some ⟨⟨1000, 10⟩, ⟨1000, 10⟩, .nearest⟩ ∧ [pair5] ≠ [] ∧
    (weigh (some site5) snap5 [pair5]).1 = some ⟨7617, 7520⟩ := by decide

theorem witness_KeptContributions : [199, 200] ≠ ([] : List Nat) ∧ (List.replicate 3 (⟨1, 1⟩ : Loads)).length < 4 ∧
    4 ≤ (List.replicate 4 (⟨1, 1⟩ : Loads)).length := by decide

theorem witness_ConsensusLoads : (decideAxle settings52 worked52 .deadline).loads = some ⟨17596, 17492⟩ ∧
    (worked52.present.all fun y => y.part.loads.all fun l => l.left ≤ 65535 && l.right ≤ 65535) = true := by decide

theorem witness_QuorumAndUnweighed : 1 ≤ settings52.count ∧ (⟨64, 1, 10, 5⟩ : DecisionSettings).quorum ≤ 1 ∧
    (⟨64, 5, 10, 5⟩ : DecisionSettings).count ≤ (⟨64, 5, 10, 5⟩ : DecisionSettings).quorum ∧
    0 < (worked52.present.filter (eligible 64 worked52.present)).length ∧ base.conf.site = some site5 := by decide

theorem witness_DecisionFields : (decideAxle settings52 worked52 .deadline).speed = some 2223 ∧
    base.conf.site = some site5 := by decide

theorem witness_SpacingClasses : base.conf.site = some site5 ∧ site5.b1 < site5.b2 ∧ site5.b2 < site5.b3 ∧
    (readSite 5 1200 goodSite.payload).isSome = true := by decide

/-- A vehicle of one axle with its loads. -/
def vehicle1 : OpenVehicle :=
  { ordinal := 1, firstAxle := 52, groups := [1], axles := [⟨decideAxle settings52 worked52 .deadline, .coupling⟩],
    flags := {} }

theorem witness_VehicleRecordFields : vehicle1.axles.filterMap (fun a => a.axle.speed) ≠ [] ∧ vehicle1.axles.length ≤ 12 ∧
    (vehicle1.axles.filterMap fun a => a.axle.loads).all (fun l => l.left ≤ 65535 && l.right ≤ 65535) = true := by decide

theorem witness_PowerOnResetEffect :
    (4 : BitVec 3).toNat ≤ (4 : BitVec 3).toNat ∧ (4 : BitVec 3).toNat < (5 : BitVec 3).toNat := by decide

theorem witness_SamplePairInTrain : running.strapFault = false ∧
    ({ running with fe := { running.fe with pairRate := .active } } : State).producesPair ∧
    ¬ ({ running with fe := { running.fe with pairDone := true } } : State).producesPair ∧
    running.train.state ≠ .noTrain := by
  refine ⟨by decide, ?_, ?_, by decide⟩ <;> unfold State.producesPair <;> decide

/-- The settled station at a tick with a pair. -/
def settled : State := { base with fe := { base.fe with settledMark := true } }

theorem witness_SamplePairTracks :
    (8388607 : Sample).toInt = 8388607 ∧ ((256 * 1200 - 307200 : Int)).natAbs ≤ 256 * 5 ∧
    256 * 5 < ((256 * 1210 - 307200 : Int)).natAbs ∧
    settled.strapFault = false ∧ settled.producesPair ∧ settled.train.state = .noTrain ∧ settled.conf.cal = some cal5 ∧
    settled.zero.capturePending = false ∧ settled.fe.settledMark = true ∧ settled.wheel.dwell = none ∧
    settled.pass.faults = noFaults ∧ settled.link.queue.length < 8 ∧
    base.strapFault = false ∧ base.producesPair ∧ base.train.state = .noTrain ∧ base.wheel.dwell = none ∧
    base.fe.settledMark = false ∧ ({ settled with conf := blank.conf } : State).producesPair ∧
    ({ settled with conf := blank.conf } : State).conf.cal = none ∧ clippedSample 8388607 = true ∧
    ({ noFaults with linkFailure := true } : FaultSet) ≠ noFaults := by
  refine ⟨by decide, by decide, by decide, by decide, ?_, by decide, by decide, by decide, by decide, by decide,
    by decide, by decide, by decide, ?_, by decide, by decide, by decide, ?_, by decide⟩ <;>
    unfold State.producesPair <;> decide

theorem witness_ZeroCapture :
    let s : State := { settled with zero := { settled.zero with capturePending := true, count := 255 } }
    let none' : State := { s with conf := { s.conf with site := none } }
    s.strapFault = false ∧ s.producesPair ∧ s.train.state = .noTrain ∧ s.conf.cal = some cal5 ∧
    s.zero.capturePending = true ∧ s.fe.settledMark = true ∧ s.wheel.dwell = none ∧
    clippedSample 1200 = false ∧ clippedSample 8388607 = true ∧ s.zero.count = 255 ∧ s.conf.site ≠ none ∧
    none'.conf.site = none ∧ s.pass.faults = noFaults ∧
    ({ noFaults with linkFailure := true } : FaultSet) ≠ noFaults := by
  refine ⟨by decide, ?_, by decide⟩; unfold State.producesPair; decide

/-- The station whose quiet timer has just expired. -/
def quiet5 : State := { base with tick := 245760, rc := { base.rc with quietTimer := some 245760 } }

theorem witness_QuietTimerPaths : quiet5.strapFault = false ∧ quiet5.conf.site = some site5 ∧ site5.quiet ≠ 0 ∧
    quiet5.rc.rate = .quiet ∧ quiet5.rc.quietTimer = some 245760 ∧ quiet5.reached 245760 ∧
    ¬ ({ quiet5 with tick := 245759 } : State).reached 245760 ∧ quiet5.rc.detectorWake = false ∧
    quiet5.rc.linkWake = false ∧ quiet5.zero.capturePending = false := by
  refine ⟨by decide, by decide, by decide, by decide, by decide, ?_, ?_, by decide⟩ <;> unfold State.reached <;> decide

theorem witness_FrontEndTimers :
    let s : State := { base with rc := { base.rc with dormantEntry := some 0 } }
    let d : State := { base with rc := { base.rc with rate := .dormant, refreshTimer := some 0 } }
    s.strapFault = false ∧ s.rc.rate = .quiet ∧ s.rc.dormantEntry = some 0 ∧ s.reached 0 ∧ ¬ s.reached 1 ∧
    s.conf.site = some site5 ∧ d.rc.rate = .dormant ∧ d.rc.refreshTimer = some 0 ∧ d.reached 0 ∧
    base.fe.settling = true ∧ base.fe.settleCount ≠ 0 ∧
    ({ base with fe := { base.fe with settleCount := 0 } } : State).fe.settleCount = 0 := by
  refine ⟨by decide, by decide, by decide, ?_, ?_, by decide, by decide, by decide, ?_, by decide⟩ <;>
    unfold State.reached <;> decide

theorem witness_WakeEventRows :
    let on := fun (r : Rate) => ({ base with rc := { base.rc with rate := r, detectorWake := true } } : State)
    base.strapFault = false ∧ base.rc.linkWake = false ∧ (on .active).rc.rate = .active ∧ (on .quiet).rc.rate = .quiet ∧
    (on .dormant).rc.rate = .dormant ∧ (on .dormant).rc.detectorWake = true := by decide

/-- A hold that is clear, and one that has ended but is still set. -/
theorem hold_clear {s : State} {d : Detector} (h : s.wheel.hold d = none) : s.holdOver d := by
  intro e g; rw [h] at g; cases g

theorem hold_ended {s : State} {d : Detector} {e : Tick} (h : s.wheel.hold d = some e)
    (g : 1 ≤ (s.tick - e).toNat ∧ (s.tick - e).toNat ≤ 2147483647) : s.holdOver d := by
  intro x i; rw [h] at i; cases i; exact g

/-- The hold of detector A ended at this tick and is still set. -/
def ended (s : State) : State := { s with tick := 200, wheel := { s.wheel with holdA := some 199 } }

theorem witness_DebounceHolds :
    let s : State := { base with tick := 200, wheel := { base.wheel with holdA := some 199 } }
    s.strapFault = false ∧ s.wheel.hold .a = some 199 ∧ 1 ≤ (s.tick - 199).toNat ∧ (s.tick - 199).toNat ≤ 2147483647 ∧
    ¬ 1 ≤ ((199 : Tick) - 199).toNat ∧ s.holdOver .b ∧ s.holdOver .a ∧ s.wheel.hold .a ≠ none ∧
    exec (.detectorEvent .b .up) s = .next (after (.detectorEvent .b .up) s) ∧ blank.conf.site = none :=
  ⟨by decide, by decide, by decide, by decide, by decide, hold_clear rfl, hold_ended rfl (by decide), by decide, rfl,
    by decide⟩

theorem witness_MeasuredLengths : 0 < 1 ∧ (⟨0, none, false⟩ : PrevAxle).speed = none ∧
    (⟨0, some 5, false⟩ : PrevAxle).speed = some 5 ∧ base.conf.site = some site5 := by decide

/-- The station in QUIET with a hold that has ended, and in DORMANT. -/
theorem witness_DetectorOpensTrain :
    let d : State := { base with rc := { base.rc with rate := .dormant }, fe := { base.fe with powered := false } }
    (ended base).holdOver .a ∧ (ended base).holdOver .b ∧ d.holdOver .a ∧
    (∀ s ∈ [ended base, d], s.strapFault = false ∧ s.conf.site = some site5 ∧ s.train.state = .noTrain ∧
      s.rc.rate ≠ .active ∧ s.wheel.dwell = none ∧ s.link.queue.length < 8 ∧ ∀ i : Fin 16, s.table.slots[i] = .free) ∧
    d.rc.rate = .dormant :=
  ⟨hold_ended rfl (by decide), hold_clear rfl, hold_clear rfl, by decide, rfl⟩

/-- A station that does not contribute, with a dwell open. -/
def watching : State :=
  { running with
    train := { running.train with standing := .notReady }
    wheel := { running.wheel with counter := 65534, dwell := some ⟨65534, 0, false, false⟩ }
    pass := { running.pass with snapshot := some snap5 } }

/-- The same station at CONTRIBUTING standing. -/
def contributing : State := { watching with train := running.train }

theorem witness_DetectorEntry :
    (ended watching).holdOver .a ∧ watching.holdOver .a ∧ contributing.holdOver .a ∧ running.holdOver .a ∧
    (∀ s ∈ [ended watching, watching, contributing, running], s.strapFault = false ∧ s.conf.site = some site5 ∧ s.train.state = .running ∧ s.train.dir = .up ∧ s.wheel.counter < 65535) ∧
    watching.wheel.dwell = some ⟨65534, 0, false, false⟩ ∧ watching.pass.snapshot = some snap5 ∧
    watching.train.standing ≠ .contributing ∧ contributing.wheel.dwell = some ⟨65534, 0, false, false⟩ ∧
    contributing.pass.snapshot = some snap5 ∧ contributing.train.standing = .contributing ∧
    contributing.link.queue.length < 8 ∧ running.wheel.dwell = none ∧
    ∀ i : Fin 16, watching.table.slots[i] = .free :=
  ⟨hold_ended rfl (by decide), hold_clear rfl, hold_clear rfl, hold_clear rfl, by decide⟩

theorem witness_DetectorExit : watching.strapFault = false ∧ watching.holdOver .b ∧
    watching.conf.site = some site5 ∧ watching.train.state = .running ∧ watching.train.dir = .up ∧
    watching.wheel.dwell = some ⟨65534, 0, false, false⟩ ∧ watching.pass.snapshot = some snap5 ∧
    watching.train.standing ≠ .contributing ∧ running.train.standing = .contributing ∧ running.wheel.dwell = none ∧
    running.link.queue.length < 8 :=
  ⟨by decide, hold_clear rfl, by decide⟩

theorem witness_AbandonmentLeaves : running.table.handedCount ≤ 65535 ∧
    ((sending .idle false 0).link.queue.map QFrame.id).Nodup := by decide

theorem witness_AbandonmentCauses : running.strapFault = false ∧ running.holdOver .a ∧
    running.conf.site = some site5 ∧ running.train.state = .running ∧ Direction.down ≠ running.train.dir ∧
    65535 ≤ ({ running with wheel := { running.wheel with counter := 65535 } } : State).wheel.counter ∧
    running.listening ∧ running.accepts .train (rx .train 0 (trainPayload 2 .up 0 5 0 false false)) ∧
    running.accepts .train (rx .train 4 (trainPayload 1 .down 0 0 0 false false)) ∧
    running.link.queue.length < 8 :=
  ⟨by decide, hold_clear rfl, by decide, by decide, by decide, by decide, Or.inr ⟨rfl, by decide⟩,
    rx_accepts _ _ _ _ _ (by decide) (by decide), rx_accepts _ _ _ _ _ (by decide) (by decide), by decide⟩

theorem witness_CloseTimerCloses :
    let s : State := { running with tick := 491520 }
    let c := readTrain 0 (trainPayload 3 .up 1 0 0 false false)
    let a : State := { s with train := { s.train with state := .abandoned, peerClose := some c } }
    s.strapFault = false ∧ s.train.closeTimer = some 491520 ∧ s.train.state ≠ .noTrain ∧ s.reached 491520 ∧
    ¬ running.reached 491520 ∧ a.train.state = .abandoned ∧ a.link.queue = [] ∧
    a.train.peerClose = some c ∧ c.ordinal = a.table.handedCount ∧ c.vehicles = a.asm.counter ∧ s.rc.rate = .active ∧
    base.rc.rate ≠ .active ∧ s.train.peerClose = none ∧ s.train.state = .running ∧ s.table.handedCount ≤ 65535 ∧
    (closeVehicle { last := true } (flushTo 0 s)).link.queue.length < 8 := by
  refine ⟨by decide, by decide, by decide, ?_, ?_, by decide⟩ <;> unfold State.reached <;> decide

/-- The entry of the worked case, OPEN with two positions awaited. -/
def open52 : Collecting :=
  { worked52 with contribs := (worked52.contribs.set 2 none).set 4 none }

/-- Its station, the entry alone in the table at next_expected. -/
def waiting52 : State :=
  { running with table := { running.table with
    nextExpected := 52, highestOpened := 52, slots := running.table.slots.set 3 (.opened open52 100) } }

/-- The same station before ordinal 51 was handed over. -/
def waiting51 : State := { waiting52 with table := { waiting52.table with nextExpected := 51 } }

theorem witness_DeadlineDecides : waiting52.strapFault = false ∧ waiting52.table.slots[(3 : Fin 16)] = .opened open52 100 ∧
    ({ waiting52 with tick := 100 } : State).reached 100 ∧ ¬ waiting52.reached 100 ∧
    ownSlip waiting52.own open52 = none ∧ open52.contribs[waiting52.own] = none ∧
    (worked52.contribs[waiting52.own]).isSome = true ∧ ownSlip waiting52.own worked52 = some false ∧ open52.ordinal = waiting52.table.nextExpected ∧
    (∀ j : Fin 16, j ≠ 3 → waiting52.table.slots[j] = .free) ∧
    (let t := setSlot 7 (.opened { open52 with ordinal := 51 } 100) waiting51
     slotOf t.table.slots t.table.nextExpected = some 7) := by
  refine ⟨by decide, by decide, ?_, ?_, by decide⟩ <;> unfold State.reached <;> decide

theorem witness_LinkStates :
    let q : State := { base with link := { base.link with recessive := 10, queue := [frame 3 .presence, frame 4 .train] } }
    q.strapFault = false ∧ q.link.state = .idle ∧ 11 ≤ q.link.recessive + 1 ∧ q.link.recessive + 0 < 11 ∧
    q.link.queue = [frame 3 .presence] ++ frame 4 .train :: [] ∧
    (∀ g ∈ [frame 3 .presence], kindValue Kind.train < kindValue g.kind) ∧ base.link.queue = [] ∧
    (sending .contending false 0).link.cancelled = false ∧ (sending .contending true 0).link.cancelled = true ∧
    (sending .contending true 0).link.attempt = some 4 ∧ (sending .receiving false 0).link.state = .receiving := by decide

theorem witness_SenderErrors :
    (∀ s ∈ [base, { base with link := { base.link with state := .receiving } }],
      s.strapFault = false ∧ s.link.state ≠ .contending ∧ s.link.state ≠ .sending) ∧
    (∀ s ∈ [sending .sending false 6, sending .contending true 7, sending .sending false 7],
      s.strapFault = false ∧ s.link.queue = [frame 3 .presence] ++ frame 4 .train :: [] ∧
      (∀ g ∈ [frame 3 .presence] ++ [], g.id ≠ (frame 4 .train).id) ∧ s.link.attempt = some (frame 4 .train).id ∧
      s.link.queue.length ≤ 8) ∧
    (sending .sending false 6).link.attempts < 7 ∧ 7 ≤ (sending .sending false 7).link.attempts ∧
    (sending .sending false 7).pass.faults = noFaults := by decide

theorem witness_AttemptCompletes : base.strapFault = false ∧ base.link.state ≠ .sending ∧
    (sending .sending false 0).strapFault = false ∧
    (sending .sending false 0).link.queue = [frame 3 .presence] ++ frame 4 .train :: [] ∧
    (∀ g ∈ [frame 3 .presence] ++ [], g.id ≠ (frame 4 .train).id) ∧
    (sending .sending false 0).link.attempt = some (frame 4 .train).id ∧
    (sending .sending false 0).link.state = .sending ∧
    (∀ own, (⟨5, .sent record5⟩ : PubEntry).state ≠ .queued own 4) ∧
    (∀ own peer, (⟨5, .sent record5⟩ : PubEntry).state ≠ .dissentQueued own peer 4) :=
  ⟨by decide, by decide, by decide, by decide, by decide, by decide, by decide, (by intro own h; cases h),
    (by intro own peer h; cases h)⟩

/-- A full queue: seven PRESENCE frames after one VEHICLE frame in attempt. -/
def full : State :=
  { base with link := { base.link with
    queue := frame 0 .vehicle :: (List.range 7).map (fun n => frame (n + 1) .presence), attempt := some 0, nextId := 8 } }

theorem witness_QueueOffers : base.link.queue.length < 8 ∧ 8 ≤ full.link.queue.length ∧
    (∀ g ∈ full.link.queue, full.link.attempt ≠ some g.id → kindValue g.kind ≤ kindValue .presence) ∧
    full.link.queue = (frame 0 .vehicle :: (List.range 6).map (fun n => frame (n + 1) .presence)) ++ frame 7 .presence :: [] ∧
    (∀ g ∈ frame 0 .vehicle :: (List.range 6).map (fun n => frame (n + 1) .presence), g.id ≠ 7 ∧
      (full.link.attempt ≠ some g.id → kindValue g.kind ≤ kindValue .presence)) ∧
    full.link.attempt ≠ some 7 ∧ kindValue .dissent < kindValue .presence ∧
    (∀ g ∈ full.link.queue, g.id ≠ 9) := by decide +kernel

/-- The station with this many recessive bit times counted. -/
def early (n : Nat) : State := { base with link := { base.link with recessive := n } }

theorem witness_ReceiveChecks :
    base.strapFault = false ∧ frameRow (.axleFrame (rx .axle 2 (List.replicate 12 0))) =
      some (.axle, rx .axle 2 (List.replicate 12 0)) ∧
    base.listening ∧ (sending .sending false 0).link.state = .sending ∧ base.link.recessive = 11 ∧
    (early 10).link.state = .idle ∧ (early 10).link.recessive = 10 ∧
    (sending .receiving false 0).listening ∧ exec (.senderError 9) (sending .sending false 0) =
      .next (after (.senderError 9) (sending .sending false 0)) ∧
    exec (.powerOnReset 2 4 6) base = .next (after (.powerOnReset 2 4 6) base) ∧ (rx .axle 2 (List.replicate 11 0)).payload.length ≠ 12 ∧
    (rx .axle 2 (List.replicate 12 0)).payload.length = payloadLength .axle ∧
    frameCheck .axle 2 0 (List.replicate 12 0) = (rx .axle 2 (List.replicate 12 0)).check ∧
    3 ≤ kindValue .axle ∧ (rx .axle 2 (List.replicate 12 0)).position = base.own ∧
    base.conf.straps.count ≤ (rx .axle 5 (List.replicate 12 0)).position.val ∧
    base.pass.faults = noFaults ∧ base.link.queue.length < 8 :=
  ⟨by decide, rfl, Or.inr ⟨rfl, by decide⟩, by decide, by decide, by decide, by decide, Or.inl rfl, rfl, rfl, by decide,
    by decide +kernel, by decide +kernel, by decide⟩

theorem witness_RestartTaken : base.strapFault = false ∧ base.listening ∧
    base.accepts .restart (rx .restart 3 [0, 0]) ∧ (rx .restart 3 [0, 0]).position ≠ base.own ∧
    get1 [0, 0] 0 = 0 ∧ base.accepts .restart (rx .restart 2 [0, 1]) ∧ (rx .restart 2 [0, 1]).position = base.own ∧
    base.accepts .restart (rx .restart 3 [255, 0]) ∧ get1 [255, 0] 0 ≠ 0 :=
  ⟨by decide, Or.inr ⟨rfl, by decide⟩, rx_accepts _ _ _ _ _ (by decide) (by decide), by decide, by decide,
    rx_accepts _ _ _ _ _ (by decide) (by decide), by decide, rx_accepts _ _ _ _ _ (by decide) (by decide), by decide⟩

theorem witness_CalibrateTaken : blank.strapFault = false ∧ blank.listening ∧ blank.accepts .calibrate goodCalibrate ∧
    goodCalibrate.position = blank.own ∧ blank.conf.cal = none ∧ base.conf.cal ≠ none ∧
    blank.zero.capturePending = false ∧ blank.link.queue.length < 8 ∧
    (let p := goodCalibrate.payload
     ¬ (get2 p 0 = 0 ∨ get2 p 3 = 0 ∨ 31 < get1 p 2 ∨ 31 < get1 p 5 ∨ 1 < get1 p 6 ∨ get2 p 16 < get2 p 14)) ∧
    blank.accepts .calibrate (rx .calibrate 2 (List.replicate 20 0)) ∧ get2 (List.replicate 20 0) 0 = 0 :=
  ⟨by decide, Or.inr ⟨rfl, by decide⟩, rx_accepts _ _ _ _ _ (by decide) (by decide), by decide, by decide, by decide, by decide,
    by decide, by decide, rx_accepts _ _ _ _ _ (by decide) (by decide), by decide⟩

theorem witness_SiteTaken : blank.strapFault = false ∧ blank.listening ∧ blank.accepts .site goodSite ∧
    blank.conf.site = none ∧ base.conf.site ≠ none ∧ blank.link.queue.length < 8 ∧
    (let p := goodSite.payload
     get1 p 12 < get1 p 13 ∧ get1 p 13 < get1 p 14 ∧ 600 + 100 * blank.conf.straps.sec.toNat < get1 p 12 * 100) ∧
    blank.accepts .site (rx .site 2 (List.replicate 20 0)) ∧
    ¬ get1 (List.replicate 20 0) 12 < get1 (List.replicate 20 0) 13 :=
  ⟨by decide, Or.inr ⟨rfl, by decide⟩, rx_accepts _ _ _ _ _ (by decide) (by decide), by decide, by decide, by decide, by decide,
    rx_accepts _ _ _ _ _ (by decide) (by decide), by decide⟩

theorem witness_RosterEntries : base.strapFault = false ∧ base.listening ∧
    base.accepts .presence (rx .presence 0 (List.replicate 8 4)) ∧
    base.accepts .dissent (rx .dissent 4 (List.replicate 18 0)) ∧
    (⟨.live, true, 2, 2⟩ : RosterEntry).misses = 2 ∧ (⟨.live, true, 1, 1⟩ : RosterEntry).slips < 2 ∧
    (0 : Pos) ≠ base.own ∧ open52.expected[(4 : Fin 8)] = true ∧ open52.contribs[(4 : Fin 8)] = none ∧
    open52.expected[(7 : Fin 8)] = false ∧ open52.contribs[(7 : Fin 8)] = none ∧
    (open52.contribs[(0 : Fin 8)]).isSome = true :=
  ⟨by decide, Or.inr ⟨rfl, by decide⟩, rx_accepts _ _ _ _ _ (by decide) (by decide), rx_accepts _ _ _ _ _ (by decide) (by decide),
    by decide⟩

/-- A running station whose own TRAIN-OPEN waits. -/
def opener : State :=
  { running with link := { running.link with queue := [frame 3 .presence, frame 4 .train], nextId := 5 }
                 train := { running.train with openFrame := some 4 } }

theorem witness_TrainOpenTaken :
    let f := rx .train 0 (trainPayload 1 .up 7 0 0 false false)
    base.strapFault = false ∧ base.listening ∧ base.accepts .train f ∧ running.accepts .train f ∧
    opener.accepts .train f ∧ base.conf.site ≠ none ∧ blank.conf.site = none ∧ get1 f.payload 0 = 1 ∧
    base.train.state = .noTrain ∧ base.rc.rate ≠ .active ∧ running.train.state = .running ∧
    get1 f.payload 1 % 2 ≠ 1 ∧ running.train.dir = .up ∧ running.train.openFrame = none ∧
    opener.train.openFrame = some (frame 4 .train).id ∧
    opener.link.queue = [frame 3 .presence] ++ frame 4 .train :: [] ∧
    (∀ h ∈ [frame 3 .presence] ++ [], h.id ≠ (frame 4 .train).id) ∧ opener.link.attempt = none :=
  ⟨by decide, Or.inr ⟨rfl, by decide⟩, rx_accepts _ _ _ _ _ (by decide) (by decide), rx_accepts _ _ _ _ _ (by decide) (by decide),
    rx_accepts _ _ _ _ _ (by decide) (by decide), by decide⟩

/-- A station that has closed its train and whose TRAIN-CLOSE waits. -/
def closer : State :=
  { base with link := { base.link with queue := [frame 4 .train], nextId := 5 }
              train := { base.train with closeFrame := some 4, ownClose := some ⟨20, 5, false, false⟩ } }

theorem witness_TrainCloseTaken :
    let f := rx .train 0 (trainPayload 3 .up 7 20 5 false false)
    let g := rx .train 0 (trainPayload 3 .up 7 21 5 false false)
    closer.strapFault = false ∧ closer.listening ∧ closer.accepts .train f ∧ closer.accepts .train g ∧
    running.accepts .train f ∧ running.train.peerClose = none ∧ running.train.state ≠ .noTrain ∧
    closer.conf.site ≠ none ∧ get1 f.payload 0 = 3 ∧ closer.train.state = .noTrain ∧ base.train.closeFrame = none ∧
    closer.train.ownClose = some ⟨20, 5, false, false⟩ ∧ get2 f.payload 3 = 20 ∧ get2 f.payload 5 = 5 ∧
    get2 g.payload 3 ≠ 20 ∧ closer.train.closeFrame = some (frame 4 .train).id ∧
    closer.link.queue = [] ++ frame 4 .train :: [] ∧ closer.link.attempt = none :=
  ⟨by decide, Or.inr ⟨rfl, by decide⟩, rx_accepts _ _ _ _ _ (by decide) (by decide), rx_accepts _ _ _ _ _ (by decide) (by decide),
    rx_accepts _ _ _ _ _ (by decide) (by decide), by decide⟩

/-- An AXLE frame of position `p` for an ordinal, UP, at 2,224 cm/s. -/
def axle5 (p : Pos) (ordinal : Nat) : RxFrame :=
  rx .axle p (axlePayload { ordinal := ordinal, dir := .up, loads := some ⟨17642, 17310⟩, speed := some 2224,
                            spacing := some 199, flags := 0 })

theorem axle5_accepts (s : State) (p : Pos) (n : Nat) (h : p.val < s.conf.straps.count ∧ p ≠ s.own) :
    s.accepts .axle (axle5 p n) := rx_accepts _ _ _ _ _ rfl (fun _ => h)

theorem witness_AxleTaken :
    let last : State := setSlot 3 (.opened { open52 with expected := #v[true, true, false, true, true, false, false, false] }
      100) waiting52
    let decided : State := setSlot 3 (.decided open52 (holeAxle 52 false)) waiting52
    waiting52.strapFault = false ∧ waiting52.listening ∧ waiting52.accepts .axle (axle5 4 52) ∧
    waiting52.accepts .axle (axle5 4 51) ∧ waiting52.accepts .axle (axle5 4 67) ∧ waiting52.conf.site ≠ none ∧
    waiting52.train.state = .running ∧ (readAxle (axle5 4 52).payload).dir = waiting52.train.dir ∧
    (readAxle (axle5 4 51).payload).ordinal < waiting52.table.nextExpected ∧
    (readAxle (axle5 4 67).payload).ordinal ≤ waiting52.table.nextExpected + 15 ∧
    slotOf waiting52.table.slots 52 = some 3 ∧ slotOf decided.table.slots 52 = some 3 ∧
    slotOf waiting52.table.slots 67 = none ∧ waiting52.table.slots[(0 : Fin 16)] = .free ∧
    (open52.place 4 (readAxle (axle5 4 52).payload)).awaitedList = [2] ∧
    ((({ open52 with expected := #v[true, true, false, true, true, false, false, false] } : Collecting)).place 4
      (readAxle (axle5 4 52).payload)).awaitedList = [] ∧ slotOf last.table.slots 52 = some 3 ∧
    (axle5 4 52).rosterLast = false :=
  ⟨by decide, Or.inr ⟨rfl, by decide⟩, axle5_accepts _ _ _ (by decide), axle5_accepts _ _ _ (by decide),
    axle5_accepts _ _ _ (by decide), by decide, by decide, by decide, by decide, by decide, by decide, by decide,
    by decide, by decide, by decide, by decide, by decide, rfl⟩

/-- What the first contribution of a train, from position 4, finds in its new entry. -/
def firstEntry (s : State) (n : Nat) : Collecting :=
  let ready : Bool := s.conf.cal.isSome && !s.zero.capturePending
  { ordinal := n
    contribs := (Vector.replicate 8 none).set 4 (some (readAxle (axle5 4 n).payload))
    expected := (Vector.ofFn fun p : Pos =>
      if p = s.own then ready && decide (n = 1) else (s.roster[p]).awaited).set 4 true }

/-- At ordinal 1 the own position is awaited; at ordinal 5 the station joins late, awaits none and decides at once. -/
theorem witness_firstEntries :
    (firstEntry base 1).awaitedList = [2] ∧ (firstEntry base 5).awaitedList = [] ∧
    base.accepts .axle (axle5 4 5) ∧ base.accepts .axle (rx .axle 4 (axle5 4 5).payload true) ∧
    ({ base with rc := { base.rc with rate := .dormant } } : State).accepts .axle (axle5 4 5) :=
  ⟨by decide +kernel, by decide +kernel, axle5_accepts _ _ _ (by decide), rx_accepts _ _ _ _ _ rfl (fun _ => by decide),
    axle5_accepts _ _ _ (by decide)⟩

theorem witness_AxleOpensAndForces : base.strapFault = false ∧ base.listening ∧ base.accepts .axle (axle5 4 0) ∧
    base.accepts .axle (axle5 4 1) ∧ base.accepts .axle (axle5 4 17) ∧ base.conf.site ≠ none ∧
    base.train.state = .noTrain ∧ (∀ i : Fin 16, base.table.slots[i] = .free) ∧ running.train.state = .running ∧
    running.train.standing = .contributing ∧ (∀ i : Fin 16, running.table.slots[i] = .free) ∧
    (readAxle (axle5 4 17).payload).dir = running.train.dir ∧
    running.table.nextExpected + 15 < (readAxle (axle5 4 17).payload).ordinal ∧ running.table.handedCount ≤ 65535 ∧
    slotOf running.table.slots running.table.nextExpected = none ∧
    (∀ i : Fin 16, (running.table.slots[i]).ordinal? = none) ∧
    waiting52.conf.site ≠ none ∧ waiting52.train.state = .running ∧ (axle5 4 68).payload ≠ [] ∧
    (readAxle (axle5 4 68).payload).dir = waiting52.train.dir ∧
    waiting52.table.nextExpected + 15 < (readAxle (axle5 4 68).payload).ordinal ∧
    (∀ i : Fin 16, (waiting52.table.slots[i]).ordinal?.all (fun n => n ≤ waiting52.table.nextExpected + 15) = true) ∧
    slotOf waiting52.table.slots waiting52.table.nextExpected = some 3 ∧
    waiting52.table.slots[(3 : Fin 16)] = .opened open52 100 :=
  ⟨by decide, Or.inr ⟨rfl, by decide⟩, axle5_accepts _ _ _ (by decide), axle5_accepts _ _ _ (by decide),
    axle5_accepts _ _ _ (by decide), by decide, by decide, by decide, by decide, by decide, by decide, by decide,
    by decide, by decide, by decide⟩

theorem witness_VehiclesTaken :
    let f := rx .vehicle 0 (vehiclePayload record5)
    let r := readVehicle 0 (vehiclePayload record5)
    let q : State := { base with pub := [⟨5, .queued record5 4⟩]
                                 link := { base.link with queue := [frame 4 .vehicle], nextId := 5 } }
    base.strapFault = false ∧ base.listening ∧ base.accepts .vehicle f ∧ q.accepts .vehicle f ∧ base.conf.site ≠ none ∧
    r.ordinal = 5 ∧ base.pub.length < 16 ∧ q.pub = [] ++ ⟨5, .queued record5 4⟩ :: [] ∧
    q.link.queue = [] ++ frame 4 .vehicle :: [] ∧ q.link.attempt = none ∧ q.link.queue.length ≤ 8 ∧
    agree q.tolerance record5 r = true ∧ agree q.tolerance record5 { r with gross := 0 } = false ∧
    (let es := (List.range 16).map (fun n => (⟨n + 40, .sent record5⟩ : PubEntry))
     16 ≤ es.length ∧ (∀ x ∈ es.drop 1, 40 < x.ordinal) ∧ ∀ x ∈ es, x.ordinal ≠ 5) ∧
    (offer .vehicle 5 (vehiclePayload record5) { base with link := { base.link with
      queue := (List.range 8).map (fun n => frame n .axle) } }).2 = none ∧
    (∀ own ref, (⟨5, .sent record5⟩ : PubEntry).state ≠ .queued own ref) ∧
    (⟨5, .awaitingOwn r⟩ : PubEntry).state = .awaitingOwn r :=
  ⟨by decide, Or.inr ⟨rfl, by decide⟩, rx_accepts _ _ _ _ _ (by decide) (by decide), rx_accepts _ _ _ _ _ (by decide) (by decide),
    by decide, by decide, by decide, by decide, by decide, by decide, by decide, by decide, by decide, by decide, rfl,
    (by intro own ref h; cases h), rfl⟩

theorem witness_AssemblerTakes :
    let s : State := { running with asm := { running.asm with vehicle := some vehicle1, counter := 1 } }
    let a := fun (x : Option Nat) => ({ holeAxle 53 false with spacing := x } : ConsensusAxle)
    running.asm.vehicle = none ∧ s.asm.vehicle = some vehicle1 ∧ vehicle1.groups = [] ++ [1] ∧
    s.axleClass (a (some 249)) = .bogie ∧ s.axleClass (a (some 250)) = .coupling ∧
    s.axleClass (a (some 500)) = .body ∧ s.axleClass (a (some 2000)) = .gap ∧ vehicle1.axles.length ≠ 11 := by decide

theorem witness_HandOvers :
    let s : State := setSlot 3 (.decided open52 (holeAxle 52 false)) waiting52
    let t : State := { s with table := { s.table with nextExpected := 51 }, wheel := { s.wheel with counter := 51 } }
    slotOf s.table.slots s.table.nextExpected = some 3 ∧ s.table.slots[(3 : Fin 16)] = .decided open52 (holeAxle 52 false) ∧
    slotOf t.table.slots t.table.nextExpected = none ∧ t.table.nextExpected < open52.ordinal ∧
    (handStep s).isSome = true ∧ (handStep t).isSome = true ∧ (handStep waiting52).isNone = true ∧
    t.table.nextExpected ≤ t.wheel.counter ∧ s.table.nextExpected ≤ 51 + 1 ∧ s.table.handedCount ≤ 65535 ∧
    slotOf waiting52.table.slots waiting52.table.nextExpected = some 3 ∧
    waiting52.table.slots[(3 : Fin 16)] = .opened open52 100 ∧ s.table.nextExpected ≤ 52 ∧ 51 < s.table.nextExpected ∧
    running.train.standing = .contributing ∧ watching.train.standing ≠ .contributing ∧ running.train.slips < 2 ∧
    ({ running with train := { running.train with slips := 2 } } : State).train.slips = 2 := by decide

end Sys2Proof.Tests
end

section
/-! The commands as one family: the effect of each on a station in service, what it can do to the blocks that the
invariants of chapter 1 read, and the induction over one step. -/

namespace Sys2Proof.Machine

/-! ### The effect of a command -/

/-- What a command does to a station that takes it. -/
def effect (c : Instr) (s : State) : State :=
  match c with
  | .powerOnReset pos cnt sec => powerOn ⟨pos, cnt, sec⟩ s
  | .samplePair left right => samplePair left right s
  | .zeroCaptureComplete left right => zeroCaptureComplete left right s
  | .settlingComplete => settlingComplete s
  | .quietTimerExpiry => quietTimerExpiry s
  | .dormantEntryComplete => dormantEntryComplete s
  | .refreshTimerExpiry => refreshTimerExpiry s
  | .wakeEvent source => takeWake source s
  | .detectorEvent detector dir => detectorEvent detector dir s
  | .debounceHoldEnd detector => debounceHoldEnd detector s
  | .closeTimerExpiry => closeTimerExpiry s
  | .deadlineExpiry slot => deadlineExpiry slot s
  | .attemptStart quiet => attemptStart quiet s
  | .arbitrationLost => arbitrationLost s
  | .senderError run => senderError run s
  | .attemptComplete => attemptComplete s
  | .frameBroken cause run => frameBroken cause run s
  | .restartFrame f => restartFrame f s
  | .calibrateFrame f => calibrateFrame f s
  | .siteFrame f => siteFrame f s
  | .trainOpenFrame f => trainOpenFrame f s
  | .trainReversalFrame f => trainReversalFrame f s
  | .trainCloseFrame f => trainCloseFrame f s
  | .axleFrame f => axleFrame f s
  | .vehicleFrame f => vehicleFrame f s
  | .dissentFrame f => dissentFrame f s
  | .presenceFrame f => presenceFrame f s
  | .otherPartyStartMark quiet => otherPartyStartMark quiet s
  | .labelSentUnbeaten => labelSentUnbeaten s

/-- Every command but power-on reset is taken by a station in service (R5, R21, R60, R167). -/
theorem exec_inService (c : Instr) (s : State) (h : ¬ isPowerOn c) : exec c s = inService (effect c) s := by
  cases c with
  | powerOnReset pos cnt sec => exact absurd ⟨pos, cnt, sec, rfl⟩ h
  | _ => rfl

/-! ### The requests of the Train Sequencer and the opening of a train, written out -/

/-- The Front End of a station that is asked awake in rate state `r` (R4). -/
def awakeFrontEnd (r : Rate) (fe : FrontEnd) : FrontEnd :=
  if r = .dormant then { fe with powered := true, settling := true, settleCount := 2048, settledMark := false } else fe

/-- The Rate Controller after the request for ACTIVE (R6). -/
def activeRate (rc : RateControl) : RateControl :=
  if rc.rate = .active then rc
  else { rc with rate := .active, quietTimer := none, dormantEntry := none
                 refreshTimer := if rc.rate = .dormant then none else rc.refreshTimer }

theorem wakeFrontEnd_eq (s : State) : wakeFrontEnd s = { s with fe := awakeFrontEnd s.rc.rate s.fe } := by
  unfold wakeFrontEnd awakeFrontEnd
  cases s.rc.rate <;> rfl

theorem requestActive_eq (s : State) :
    requestActive s = { s with fe := awakeFrontEnd s.rc.rate s.fe, rc := activeRate s.rc } := by
  unfold requestActive awakeFrontEnd activeRate
  cases h : s.rc.rate <;> simp [powerUp, Config.settleTicks]

/-- The quiet timer that a station with this SITE starts (R8). -/
def quietTimerOf (now : Tick) (site : Option Site) : Option Tick :=
  match site with
  | none => none
  | some st => if st.quiet = 0 then none else some (now + BitVec.ofNat 32 (st.quiet * 8192))

/-- A timer of whole seconds (R8, R10). -/
theorem timerFor_seconds (now : Tick) (n : Nat) :
    timerFor now (n * Config.ticksPerSecond) = if n = 0 then none else some (now + BitVec.ofNat 32 (n * 8192)) := by
  by_cases h : n = 0 <;> simp [timerFor, tickAfter, Config.ticksPerSecond, h]

theorem quietTimer_eq (s : State) : timerFor s.tick s.quietTicks = quietTimerOf s.tick s.conf.site := by
  unfold State.quietTicks State.siteValue quietTimerOf
  cases s.conf.site with
  | none => rfl
  | some st => exact timerFor_seconds _ _

theorem startQuietTimer_eq (s : State) :
    startQuietTimer s = { s with rc := { s.rc with quietTimer := quietTimerOf s.tick s.conf.site } } := by
  rw [startQuietTimer, quietTimer_eq]

/-- Every field of a RESTART before its PRESENCE (R19, R20, R36, R41, R77, R86, R107, R140, R142, R155, R174). -/
theorem takeRestart_eq (keep : Bool) (s : State) : takeRestart keep s = offerPresence
    { s with
      conf := restartConf keep s.conf
      zero := restartZero keep s.zero
      pass := restartPass s.pass
      wheel := restartWheel s.wheel
      train := restartTrain s.train
      link := flushQueue s.link
      roster := State.reset.roster
      table := State.reset.table
      asm := State.reset.asm
      pub := []
      fe := awakeFrontEnd s.rc.rate s.fe
      rc := { rate := .quiet, refreshTimer := none, dormantEntry := none, detectorWake := false, linkWake := false
              quietTimer := quietTimerOf s.tick (restartConf keep s.conf).site } } := by
  unfold takeRestart restartRate
  dsimp only
  rw [wakeFrontEnd_eq, startQuietTimer_eq]

/-- Every field of a train that opens (R6, R16, R90, R142, R156, R160). -/
theorem openTrain_eq (d : Direction) (st : Standing) (next : Nat) (s : State) : openTrain d st next s =
    { s with
      train := { state := .running, dir := d, standing := st, slips := 0, closeTimer := some (s.tick + 491520)
                 ownClose := none, peerClose := none, openFrame := none, closeFrame := none
                 number := s.train.number + 1 }
      wheel := { s.wheel with counter := 0, prev := none }
      pass := { s.pass with latestSpeed := none }
      table := { s.table with nextExpected := next, highestOpened := 0, handedCount := 0, latestSpeed := none }
      asm := { s.asm with counter := 0, fullClose := false }
      pub := []
      zero := { s.zero with count := 0, sumL := 0, sumR := 0 }
      fe := awakeFrontEnd s.rc.rate s.fe
      rc := activeRate s.rc } := by
  unfold openTrain
  dsimp only
  rw [requestActive_eq]
  rfl

/-! ### What most operations leave -/

/-- `t` has the blocks of chapter 1, the settings, the holds, the train state and its close timer of `s`. -/
structure Calm (s t : State) : Prop where
  pending : t.pending = s.pending
  tick : t.tick = s.tick
  fe : t.fe = s.fe
  rc : t.rc = s.rc
  zero : t.zero = s.zero
  conf : t.conf = s.conf
  holdA : t.wheel.holdA = s.wheel.holdA
  holdB : t.wheel.holdB = s.wheel.holdB
  state : t.train.state = s.train.state
  dir : t.train.dir = s.train.dir
  number : t.train.number = s.train.number
  closeTimer : t.train.closeTimer = s.train.closeTimer

theorem Calm.refl (s : State) : Calm s s := by constructor <;> rfl

theorem Calm.trans {s t u : State} (h : Calm s t) (g : Calm t u) : Calm s u where
  pending := g.pending.trans h.pending
  tick := g.tick.trans h.tick
  fe := g.fe.trans h.fe
  rc := g.rc.trans h.rc
  zero := g.zero.trans h.zero
  conf := g.conf.trans h.conf
  holdA := g.holdA.trans h.holdA
  holdB := g.holdB.trans h.holdB
  state := g.state.trans h.state
  dir := g.dir.trans h.dir
  number := g.number.trans h.number
  closeTimer := g.closeTimer.trans h.closeTimer

theorem TableFrame.calm {s t : State} (h : TableFrame s t) : Calm s t := by
  obtain ⟨l, p, o, c, r, tb, a, st, k, rfl⟩ := h
  constructor <;> rfl

theorem AssemblyFrame.calm {s t : State} (h : AssemblyFrame s t) : Calm s t := h.table.calm

theorem QueueFrame.calm {s t : State} (h : QueueFrame s t) : Calm s t := h.table.calm

/-- The Link Controller, the Passage Integrator and the Roster are no part of what `Calm` speaks of. -/
theorem calm_blocks (s : State) (l : LinkControl) (p : PassageIntegrator) (r : Vector RosterEntry 8) :
    Calm s { s with link := l, pass := p, roster := r } := by constructor <;> rfl

/-- Nor are the dwell, the counter and the previous axle of the Wheel Timer. -/
theorem calm_wheel (s : State) (d : Option Dwell) (n : Nat) (v : Option PrevAxle) (p : PassageIntegrator) :
    Calm s { s with wheel := { s.wheel with dwell := d, counter := n, prev := v }, pass := p } := by
  constructor <;> rfl

theorem cancelFrame_calm (id : Nat) (s : State) : Calm s (cancelFrame id s) := by
  obtain ⟨l, h⟩ := cancelFrame_frame id s
  rw [h]
  exact calm_blocks s l s.pass s.roster

theorem cancelAxles_calm (s : State) : Calm s (cancelAxles s) := by
  obtain ⟨l, h⟩ := cancelAxles_frame s
  rw [h]
  exact calm_blocks s l s.pass s.roster

theorem setFault_calm (f : StationFault) (s : State) : Calm s (setFault f s) :=
  (calm_blocks s s.link _ s.roster).trans (setFault_frame f s).calm

theorem rosterTake_calm (k : Kind) (f : RxFrame) (s : State) : Calm s (rosterTake k f s) :=
  calm_blocks s s.link s.pass _

/-! ### Commands of the Wheel Timer and the Train Sequencer -/

theorem breakDwell_calm (d : Dwell) (n : Snapshot) (s : State) : Calm s (breakDwell d n s) :=
  (calm_wheel s none s.wheel.counter _ _).trans (handOn_frame _ _).calm

theorem closeDwell_calm (d : Dwell) (n : Snapshot) (s : State) : Calm s (closeDwell d n s) :=
  (calm_wheel s none s.wheel.counter _ _).trans (handOn_frame _ _).calm

theorem openDwell_calm (s : State) : Calm s (openDwell s) :=
  (calm_wheel s _ _ s.wheel.prev _).trans (handChain_frame _).calm

theorem endOpenDwell_calm (s : State) : Calm s (endOpenDwell s) := by
  unfold endOpenDwell
  split
  · exact breakDwell_calm _ _ s
  · exact Calm.refl s

theorem takeExit_calm (s : State) : Calm s (takeExit s) := by
  unfold takeExit
  split
  · exact closeDwell_calm _ _ s
  · exact Calm.refl s

/-- The train in ABANDONED with its close timer running to tick `e` (R164). -/
def abandonedAt (e : Tick) (s : State) : State :=
  { s with train := { s.train with state := .abandoned, closeTimer := some e } }

/-- The train closed: NO_TRAIN, no close timer, QUIET asked for (R6, R161). -/
def trainEnded (s : State) : State :=
  requestQuiet { s with train := { s.train with state := .noTrain, closeTimer := none } }

/-- A change of the train state made on a state that differs calmly differs calmly. -/
theorem Calm.abandonedAt {s t : State} (h : Calm s t) (e : Tick) : Calm (abandonedAt e s) (abandonedAt e t) :=
  { h with state := rfl, closeTimer := rfl }

theorem Calm.siteValue {s t : State} (h : Calm s t) {α : Type} (d : α) (f : Site → α) :
    t.siteValue d f = s.siteValue d f := by rw [State.siteValue, State.siteValue, h.conf]

theorem Calm.withRc {s t : State} (h : Calm s t) (rc : RateControl) : Calm { s with rc := rc } { t with rc := rc } :=
  { h with rc := rfl }

/-- In ACTIVE the request for QUIET starts the quiet timer (R6, R8). -/
theorem requestQuiet_active (s : State) (h : s.rc.rate = .active) : requestQuiet s =
    { s with rc := { s.rc with rate := .quiet, quietTimer := timerFor s.tick s.quietTicks } } := by
  unfold requestQuiet
  rw [h]
  rfl

/-- Outside ACTIVE the request for QUIET is not taken (R6). -/
theorem requestQuiet_inactive (s : State) (h : s.rc.rate ≠ .active) : requestQuiet s = s := by
  unfold requestQuiet
  split
  · contradiction
  · rfl
  · rfl

theorem requestQuiet_calm {s t : State} (h : Calm s t) : Calm (requestQuiet s) (requestQuiet t) := by
  by_cases hs : s.rc.rate = .active
  · have ht : t.rc.rate = .active := by rw [h.rc, hs]
    rw [requestQuiet_active s hs, requestQuiet_active t ht, h.rc, h.tick,
      show t.quietTicks = s.quietTicks from h.siteValue _ _]
    exact { h.withRc _ with tick := rfl }
  · have ht : t.rc.rate ≠ .active := by rw [h.rc]; exact hs
    rwa [requestQuiet_inactive s hs, requestQuiet_inactive t ht]

/-- The steps of R164 leave what `Calm` speaks of but for the train state and the close timer. -/
theorem enterAbandoned_calm (r : Nat) (s : State) : ∃ e, Calm (abandonedAt e s) (enterAbandoned r s) := by
  have h : Calm s (closeVehicle { reversed := true }
      (cutAt r s.highestKnown (cancelAxles (clearCounter (discardDwell s))))) :=
    (calm_wheel s none 0 none _).trans <| (cancelAxles_calm _).trans <|
      (flushTo_frame _ _).calm.trans <| (table_frame _ _).calm.trans (closeVehicle_frame _ _).calm
  exact ⟨_, h.abandonedAt _⟩

theorem offerReversal_calm (r : Nat) (s : State) : Calm s (offerReversal r s) := (offer_frame _ _ _ s).calm

theorem abandonAnnounced_calm (r : Nat) (s : State) : ∃ e, Calm (abandonedAt e s) (abandonAnnounced r s) := by
  obtain ⟨e, h⟩ := enterAbandoned_calm r (offerReversal r s)
  exact ⟨e, ((offerReversal_calm r s).abandonedAt e).trans h⟩

theorem closeFlush_frame (n : Nat) (s : State) : TableFrame s (closeFlush n s) := by
  unfold closeFlush
  split
  · exact (flushTo_frame n s).trans (closeVehicle_frame _ _).table
  · exact TableFrame.refl s
  · exact TableFrame.refl s

theorem formClose_calm (s : State) : Calm s (formClose s) := by
  have h : Calm s { s with train := { s.train with ownClose := some s.closeRecord } } := by constructor <;> rfl
  unfold formClose offerTrain
  dsimp only
  split
  · exact h
  · have g := h.trans (offer_frame .train (seqOf s.train.number.toNat) (trainPayload trainCloseSubtype s.train.dir
      s.train.number s.closeRecord.handed s.closeRecord.vehicles s.closeRecord.reversed s.closeRecord.desync) _).calm
    exact { g with }

/-- The six steps of R161 leave what `Calm` speaks of but for the train state, the close timer and the request for
QUIET. -/
theorem closeTrain_calm (s : State) : Calm (trainEnded s) (closeTrain s) := by
  have h : Calm s (releaseRoster (formClose (closeFlush s.highestKnown (cancelAxles (discardDwell s))))) :=
    (calm_wheel s none s.wheel.counter s.wheel.prev _).trans <| (cancelAxles_calm _).trans <|
      (closeFlush_frame _ _).calm.trans <| (formClose_calm _).trans (calm_blocks _ _ _ _)
  exact requestQuiet_calm { h with state := rfl, closeTimer := rfl }

/-! ### What a command can do -/

/-- One change that a detector event, a close timer or a peer's frame makes to the train, `Calm` changes beside it. -/
inductive TrainAct : State → State → Prop where
  | calm {s t : State} (h : Calm s t) : TrainAct s t
  /-- A train opens (R156). -/
  | opens (s : State) (d : Direction) (st : Standing) (n : Nat) (h : s.train.state = .noTrain)
      (g : s.holdsTrains = true) : TrainAct s (openTrain d st n s)
  /-- The close timer of a held train restarts (R160). -/
  | restarts (s : State) (h : s.train.state ≠ .noTrain) : TrainAct s (restartClose s)
  /-- A running train is abandoned (R164). -/
  | abandons (s : State) (e : Tick) (h : s.train.state = .running) : TrainAct s (abandonedAt e s)
  /-- A held train closes (R161). -/
  | ends (s : State) (h : s.train.state ≠ .noTrain) : TrainAct s (trainEnded s)

/-- One change that a command makes: to the train, to the blocks of chapter 1, to a hold or to the last refusal status.
Together they are what a command other than a sample pair or an accepted settings frame can do. -/
inductive Act : State → State → Prop where
  | train {s t : State} (h : TrainAct s t) : Act s t
  /-- Wake flags set or cleared (R7). -/
  | flags (s : State) (d l : Bool) : Act s { s with rc := { s.rc with detectorWake := d, linkWake := l } }
  /-- A debounce hold set or cleared (R22). -/
  | hold (s : State) (d : Detector) (e : Option Tick) : Act s { s with wheel := s.wheel.setHold d e }
  /-- Settling ends (R4). -/
  | settled (s : State) : Act s { s with fe := { s.fe with settling := false } }
  /-- A wake event is taken, or the refresh timer expires (R7, R10). -/
  | woken (s : State) : Act s (wakeRate s)
  /-- A capture in flight restarts the quiet timer that expired (R8). -/
  | quietAgain (s : State) (h : s.rc.rate = .quiet) (g : s.rc.quietTimer.isSome = true) : Act s (startQuietTimer s)
  /-- The dormant entry starts (R8, R9). -/
  | entering (s : State) (e : Tick) (h : s.rc.rate = .quiet) (g : s.rc.quietTimer.isSome = true) :
      Act s { s with rc := { s.rc with quietTimer := none, dormantEntry := some e } }
  /-- The dormant entry completes (R9). -/
  | entered (s : State) (h : s.rc.rate = .quiet) (g : s.rc.dormantEntry.isSome = true) : Act s (dormantEntered s)
  /-- The last refusal status is set (R169, R171). -/
  | refused (s : State) (r : LastRefusal) : Act s { s with conf := { s.conf with lastRefusal := r } }

/-- Any number of changes to the train. -/
abbrev TrainActs : State → State → Prop := Relation.ReflTransGen TrainAct

/-- Any number of changes. -/
abbrev Acts : State → State → Prop := Relation.ReflTransGen Act

theorem TrainAct.trainActs {s t : State} (h : TrainAct s t) : TrainActs s t := .single h

theorem Calm.trainActs {s t : State} (h : Calm s t) : TrainActs s t := (TrainAct.calm h).trainActs

theorem TrainActs.acts {s t : State} (h : TrainActs s t) : Acts s t :=
  Relation.ReflTransGen.mono (p := Act) (fun _ _ => Act.train) s t h

theorem Act.acts {s t : State} (h : Act s t) : Acts s t := .single h

theorem Calm.acts {s t : State} (h : Calm s t) : Acts s t := h.trainActs.acts

/-- What a command other than power-on reset can do to a station in service. -/
inductive CommandEffect (s t : State) : Prop where
  | acts (h : Acts s t)
  /-- A sample pair is produced (R2). -/
  | pair (l r : Sample) (h : t = producePair l r s)
  /-- A CALIBRATE is accepted (R170). -/
  | calibrate (p : List Byte) (c : Calibrate) (hc : readCalibrate p = some c) (hs : s.conf.cal = none)
      (h : t = acceptCalibrate c s.delivered)
  /-- A SITE is accepted (R171). -/
  | site (st : Site) (hs : s.conf.site = none) (h : t = acceptSite st s.delivered)
  /-- A RESTART is taken (R174). -/
  | restart (keep : Bool) (h : t = takeRestart keep s.delivered)

theorem Calm.effect {s t : State} (h : Calm s t) : CommandEffect s t := .acts h.acts

/-! ### Timed commands -/

theorem clearFlag_act (w : WakeSource) (s : State) : Act s { s with rc := s.rc.clearFlag w } := by
  cases w with
  | detector => exact .flags s false s.rc.linkWake
  | link => exact .flags s s.rc.detectorWake false

theorem takeWake_acts (w : WakeSource) (s : State) : Acts s (takeWake w s) := by
  unfold takeWake
  split
  · exact (clearFlag_act w s).acts.tail (.woken _)
  · exact .refl

theorem timerDue_isSome {now : Tick} {t : Option Tick} (h : timerDue now t = true) : t.isSome = true := by
  cases t with
  | none => simp [timerDue] at h
  | some e => rfl

theorem quietTimerExpiry_acts (s : State) : Acts s (quietTimerExpiry s) := by
  unfold quietTimerExpiry quietExpired
  split
  · rename_i h
    simp only [Bool.and_eq_true, beq_iff_eq] at h
    obtain ⟨hr, ht⟩ := h
    split
    · exact (takeWake_acts .detector s).trans (takeWake_acts .link _)
    · split
      · exact (Act.quietAgain s hr (timerDue_isSome ht)).acts
      · exact (Act.entering s _ hr (timerDue_isSome ht)).acts
  · exact .refl

theorem dormantEntryComplete_acts (s : State) : Acts s (dormantEntryComplete s) := by
  unfold dormantEntryComplete
  split
  · rename_i h
    simp only [Bool.and_eq_true, beq_iff_eq] at h
    exact (Act.entered s h.1 (timerDue_isSome h.2)).acts
  · exact .refl

theorem refreshTimerExpiry_acts (s : State) : Acts s (refreshTimerExpiry s) := by
  unfold refreshTimerExpiry
  split
  · exact (Act.woken s).acts
  · exact .refl

theorem settlingComplete_acts (s : State) : Acts s (settlingComplete s) := by
  unfold settlingComplete
  split
  · exact (Act.settled s).acts
  · exact .refl

theorem debounceHoldEnd_acts (d : Detector) (s : State) : Acts s (debounceHoldEnd d s) := by
  unfold debounceHoldEnd
  split
  · exact (Act.hold s d none).acts
  · exact .refl

theorem trainHeld_iff (s : State) : s.trainHeld = true ↔ s.train.state ≠ .noTrain := by simp [State.trainHeld]

theorem closeTimerExpiry_acts (s : State) : TrainActs s (closeTimerExpiry s) := by
  unfold closeTimerExpiry
  split
  · rename_i h
    have hs : s.train.state ≠ .noTrain := (trainHeld_iff s).1 (Bool.and_eq_true _ _ ▸ h).1
    exact (TrainAct.ends s hs).trainActs.tail (.calm (closeTrain_calm s))
  · exact .refl

theorem deadlineExpiry_calm (i : Fin 16) (s : State) : Calm s (deadlineExpiry i s) := by
  unfold deadlineExpiry
  split
  · split
    · exact ((decideEntry_frame _ _ _ s).trans (handChain_frame _)).calm
    · exact Calm.refl s
  · exact Calm.refl s
  · exact Calm.refl s

/-! ### Detector events and the frames of the Train Sequencer -/

theorem restartClose_acts (s : State) (h : s.train.state ≠ .noTrain) : TrainActs s (restartClose s) :=
  (TrainAct.restarts s h).trainActs

theorem abandonAnnounced_acts (r : Nat) (s : State) (h : s.train.state = .running) : TrainActs s (abandonAnnounced r s) := by
  obtain ⟨e, g⟩ := abandonAnnounced_calm r s
  exact (TrainAct.abandons s e h).trainActs.tail (.calm g)

theorem openFromDetector_acts (d : Direction) (s : State) (h : s.train.state = .noTrain) (g : s.holdsTrains = true) :
    TrainActs s (openFromDetector d s) := by
  have hf := (offer_frame .train (seqOf (openTrain d s.openStanding 1 s).train.number.toNat)
    (trainPayload trainOpenSubtype (openTrain d s.openStanding 1 s).train.dir
      (openTrain d s.openStanding 1 s).train.number 0 0 false false) (openTrain d s.openStanding 1 s)).calm
  exact (TrainAct.opens s d _ 1 h g).trainActs.tail (.calm { hf with })

theorem trainTakesDetector_acts (d : Direction) (s : State) : TrainActs s (trainTakesDetector d s) := by
  unfold trainTakesDetector
  split
  · rename_i hs
    split
    · exact openFromDetector_acts d s ‹_› hs
    · exact restartClose_acts s (by simp [*])
    · exact restartClose_acts s (by simp [*])
  · exact .refl

theorem takeEntry_acts (s : State) (h : s.train.state = .running) : TrainActs s (takeEntry s) := by
  unfold takeEntry
  split
  · exact abandonAnnounced_acts _ s h
  · exact ((endOpenDwell_calm s).trans (openDwell_calm _)).trainActs

theorem wheelTakes_acts (d : Detector) (dir : Direction) (s : State) : TrainActs s (wheelTakes d dir s) := by
  unfold wheelTakes
  split
  · rename_i h
    have hs : s.train.state = .running := eq_of_beq (Bool.and_eq_true _ _ ▸ h).2
    split
    · split
      · exact takeEntry_acts s hs
      · exact (takeExit_calm s).trainActs
    · exact abandonAnnounced_acts _ s hs
  · exact .refl

theorem detectorEvent_acts (d : Detector) (dir : Direction) (s : State) : Acts s (detectorEvent d dir s) := by
  unfold detectorEvent
  split
  · exact (Act.hold s d _).acts.trans <| (Act.flags _ true s.rc.linkWake).acts.trans <|
      TrainActs.acts ((trainTakesDetector_acts dir _).trans (wheelTakes_acts d dir _))
  · exact .refl

theorem cancelOpen_calm (s : State) : Calm s (cancelOpen s) := by
  unfold cancelOpen
  split
  · exact Calm.refl s
  · exact { cancelFrame_calm _ s with }

theorem takeTrainOpen_acts (f : TrainFrame) (s : State) : TrainActs s (takeTrainOpen f s) := by
  unfold takeTrainOpen
  split
  · rename_i hs
    split
    · exact (TrainAct.opens s _ _ _ ‹_› hs).trainActs
    · split
      · exact (cancelOpen_calm s).trainActs
      · exact abandonAnnounced_acts _ s ‹_›
    · exact .refl
  · exact .refl

theorem takeTrainReversal_acts (f : TrainFrame) (s : State) : TrainActs s (takeTrainReversal f s) := by
  unfold takeTrainReversal
  split
  · rename_i h
    obtain ⟨e, g⟩ := enterAbandoned_calm f.ordinal s
    exact (TrainAct.abandons s e (eq_of_beq (Bool.and_eq_true _ _ ▸ h).2)).trainActs.tail (.calm g)
  · exact .refl

theorem answerClose_calm (f : TrainFrame) (s : State) : Calm s (answerClose f s) := by
  unfold answerClose
  split
  · exact Calm.refl s
  · split
    · exact { cancelFrame_calm _ s with }
    · exact Calm.refl s

theorem keepClose_calm (f : TrainFrame) (s : State) : Calm s (keepClose f s) := by
  unfold keepClose
  split
  · constructor <;> rfl
  · exact Calm.refl s

theorem takeTrainClose_acts (f : TrainFrame) (s : State) : TrainActs s (takeTrainClose f s) := by
  unfold takeTrainClose
  split
  · split
    · exact (answerClose_calm f s).trainActs
    · exact (keepClose_calm f s).trainActs
    · exact (keepClose_calm f s).trainActs
  · exact .refl

theorem trainTakesAxle_acts (q : Partial) (s : State) : TrainActs s (trainTakesAxle q s) := by
  unfold trainTakesAxle
  split
  · rename_i hs
    split
    · split
      · exact (TrainAct.opens s _ _ _ ‹_› hs).trainActs
      · exact (TrainAct.opens s _ _ _ ‹_› hs).trainActs
    · exact restartClose_acts s (by simp [*])
    · exact restartClose_acts s (by simp [*])
  · exact .refl

/-! ### Commands of the Link Controller -/

theorem link_calm (s : State) (l : LinkControl) : Calm s { s with link := l } := (link_frame s l).calm

theorem attemptStart_calm (n : Nat) (s : State) : Calm s (attemptStart n s) := by
  unfold attemptStart
  split
  · dsimp only
    split
    · exact link_calm s _
    · split
      · exact link_calm s _
      · exact link_calm s _
  · exact Calm.refl s

theorem otherPartyStartMark_calm (n : Nat) (s : State) : Calm s (otherPartyStartMark n s) := by
  unfold otherPartyStartMark
  split
  · split
    · exact link_calm s _
    · exact link_calm s _
  · exact Calm.refl s

theorem labelSentUnbeaten_calm (s : State) : Calm s (labelSentUnbeaten s) := by
  unfold labelSentUnbeaten
  split
  · exact link_calm s _
  · exact Calm.refl s

theorem arbitrationLost_calm (s : State) : Calm s (arbitrationLost s) := by
  unfold arbitrationLost
  split
  · exact link_calm s _
  · exact Calm.refl s

theorem failAttempt_calm (f : QFrame) (s : State) : Calm s (failAttempt f s) := by
  unfold failAttempt
  split
  · exact link_calm s _
  · exact (link_calm s _).trans ((notify_frame _ _ _).calm.trans (setFault_calm _ _))

theorem senderError_calm (n : Nat) (s : State) : Calm s (senderError n s) := by
  unfold senderError
  split
  · dsimp only
    split
    · exact link_calm s _
    · split
      · exact link_calm s _
      · exact (link_calm s _).trans (failAttempt_calm _ _)
  · exact Calm.refl s

theorem attemptComplete_calm (s : State) : Calm s (attemptComplete s) := by
  unfold attemptComplete
  split
  · dsimp only
    split
    · exact link_calm s _
    · exact (link_calm s _).trans ((link_calm _ _).trans (notify_frame _ _ _).calm)
  · exact Calm.refl s

theorem frameBroken_calm (c : BreakCause) (n : Nat) (s : State) : Calm s (frameBroken c n s) := by
  unfold frameBroken
  split
  · exact link_calm s _
  · exact Calm.refl s

/-! ### Received frames -/

theorem received_calm (s : State) : Calm s s.received := link_calm s _

theorem delivered_acts (s : State) : Acts s s.delivered :=
  (received_calm s).acts.tail (.flags s.received s.rc.detectorWake true)

/-- A received frame is delivered, or the station stays calm (R64, R68, R70, R71). -/
theorem receiveFrame_cases (k : Kind) (f : RxFrame) (d : State → State) (s : State) :
    Calm s (receiveFrame k f d s) ∨ receiveFrame k f d s = d s.delivered := by
  by_cases hl : s.listening
  · rw [receiveFrame_listening k f d s hl]
    unfold checkFrame
    split
    · split
      · split
        · exact .inl ((received_calm s).trans (setFault_calm _ _))
        · exact .inr rfl
      · exact .inl (received_calm s)
    · exact .inl (received_calm s)
  · left
    cases hs : s.link.state
    case receiving => exact absurd (.inl hs) hl
    case idle =>
      rw [receiveFrame_early k f d s hs (Nat.lt_of_not_le fun h => hl (.inr ⟨hs, h⟩))]
      exact link_calm s _
    case contending => rw [receiveFrame_driving k f d s (.inl hs)]; exact Calm.refl s
    case sending => rw [receiveFrame_driving k f d s (.inr hs)]; exact Calm.refl s

/-- A frame whose delivery only acts, only acts. -/
theorem receiveFrame_acts (k : Kind) (f : RxFrame) (d : State → State) (s : State) (hd : ∀ u, Acts u (d u)) :
    Acts s (receiveFrame k f d s) := by
  rcases receiveFrame_cases k f d s with h | h
  · exact h.acts
  · rw [h]
    exact (delivered_acts s).trans (hd _)

theorem deliverStation_acts (k : Kind) (f : RxFrame) (d : State → State) (hd : ∀ u, Acts u (d u)) (s : State) :
    Acts s (deliverStation k f d s) := by
  unfold deliverStation
  split
  · exact (hd s).trans (rosterTake_calm k f _).acts
  · exact (rosterTake_calm k f s).acts.trans (hd _)

theorem takeTrainFrame_acts (n : Nat) (f : RxFrame) (d : TrainFrame → State → State) (hd : ∀ g u, TrainActs u (d g u))
    (s : State) : Acts s (takeTrainFrame n f d s) := by
  unfold takeTrainFrame
  dsimp only
  split
  · exact (hd _ s).acts
  · exact .refl

theorem takeAxleFrame_acts (f : RxFrame) (s : State) : Acts s (takeAxleFrame f s) :=
  TrainActs.acts ((trainTakesAxle_acts _ s).trans (takeContribution_frame _ _ _).calm.trainActs)

theorem takeVehicleFrame_acts (f : RxFrame) (s : State) : Acts s (takeVehicleFrame f s) := by
  unfold takeVehicleFrame
  split
  · exact (takePeerRecord_frame _ s).calm.acts
  · exact .refl

theorem refuseSettings_acts (r : LastRefusal) (s : State) : Acts s (refuseSettings r s) :=
  (Act.refused s r).acts.tail (.train <| .calm (offerPresence_frame _).calm)

theorem restartFrame_effect (f : RxFrame) (s : State) : CommandEffect s (restartFrame f s) := by
  rcases receiveFrame_cases .restart f (takeRestartFrame f) s with h | h
  · exact h.effect
  · unfold restartFrame takeRestartFrame at *
    rw [h]
    split
    · exact .restart _ rfl
    · exact .acts (delivered_acts s)

theorem calibrateFrame_effect (f : RxFrame) (s : State) : CommandEffect s (calibrateFrame f s) := by
  rcases receiveFrame_cases .calibrate f (takeCalibrate f) s with h | h
  · exact h.effect
  · unfold calibrateFrame takeCalibrate offerCalibrate at *
    rw [h]
    split
    · rename_i hs
      split
      · exact .acts ((delivered_acts s).trans (refuseSettings_acts _ _))
      · rename_i c hc
        exact .calibrate _ c hc (Option.isNone_iff_eq_none.1 (Bool.and_eq_true _ _ ▸ hs).2) rfl
    · exact .acts (delivered_acts s)

theorem siteFrame_effect (f : RxFrame) (s : State) : CommandEffect s (siteFrame f s) := by
  rcases receiveFrame_cases .site f (takeSite f) s with h | h
  · exact h.effect
  · unfold siteFrame takeSite at *
    rw [h]
    split
    · rename_i hs
      split
      · exact .acts ((delivered_acts s).trans (refuseSettings_acts _ _))
      · exact .site _ (Option.isNone_iff_eq_none.1 hs) rfl
    · exact .acts (delivered_acts s)

/-! ### Every command -/

theorem samplePair_effect (l r : Sample) (s : State) : CommandEffect s (samplePair l r s) := by
  unfold samplePair
  split
  · exact .pair l r rfl
  · exact (Calm.refl s).effect

theorem zeroCaptureComplete_effect (l r : Sample) (s : State) : CommandEffect s (zeroCaptureComplete l r s) := by
  unfold zeroCaptureComplete
  split
  · exact .pair l r rfl
  · exact (Calm.refl s).effect

/-- Every command other than power-on reset does one of the things `CommandEffect` lists. -/
theorem effect_cases (c : Instr) (s : State) (h : ¬ isPowerOn c) : CommandEffect s (effect c s) := by
  cases c with
  | powerOnReset pos cnt sec => exact absurd ⟨pos, cnt, sec, rfl⟩ h
  | samplePair l r => exact samplePair_effect l r s
  | zeroCaptureComplete l r => exact zeroCaptureComplete_effect l r s
  | settlingComplete => exact .acts (settlingComplete_acts s)
  | quietTimerExpiry => exact .acts (quietTimerExpiry_acts s)
  | dormantEntryComplete => exact .acts (dormantEntryComplete_acts s)
  | refreshTimerExpiry => exact .acts (refreshTimerExpiry_acts s)
  | wakeEvent w => exact .acts (takeWake_acts w s)
  | detectorEvent d dir => exact .acts (detectorEvent_acts d dir s)
  | debounceHoldEnd d => exact .acts (debounceHoldEnd_acts d s)
  | closeTimerExpiry => exact .acts (closeTimerExpiry_acts s).acts
  | deadlineExpiry i => exact (deadlineExpiry_calm i s).effect
  | attemptStart n => exact (attemptStart_calm n s).effect
  | arbitrationLost => exact (arbitrationLost_calm s).effect
  | senderError n => exact (senderError_calm n s).effect
  | attemptComplete => exact (attemptComplete_calm s).effect
  | frameBroken b n => exact (frameBroken_calm b n s).effect
  | restartFrame f => exact restartFrame_effect f s
  | calibrateFrame f => exact calibrateFrame_effect f s
  | siteFrame f => exact siteFrame_effect f s
  | trainOpenFrame f =>
    exact .acts (receiveFrame_acts _ f _ s (deliverStation_acts _ f _ (takeTrainFrame_acts _ f _ takeTrainOpen_acts)))
  | trainReversalFrame f =>
    exact .acts (receiveFrame_acts _ f _ s
      (deliverStation_acts _ f _ (takeTrainFrame_acts _ f _ takeTrainReversal_acts)))
  | trainCloseFrame f =>
    exact .acts (receiveFrame_acts _ f _ s (deliverStation_acts _ f _ (takeTrainFrame_acts _ f _ takeTrainClose_acts)))
  | axleFrame f => exact .acts (receiveFrame_acts _ f _ s (deliverStation_acts _ f _ (takeAxleFrame_acts f)))
  | vehicleFrame f => exact .acts (receiveFrame_acts _ f _ s (deliverStation_acts _ f _ (takeVehicleFrame_acts f)))
  | dissentFrame f => exact .acts (receiveFrame_acts _ f _ s fun u => (rosterTake_calm _ f u).acts)
  | presenceFrame f => exact .acts (receiveFrame_acts _ f _ s fun u => (rosterTake_calm _ f u).acts)
  | otherPartyStartMark n => exact (otherPartyStartMark_calm n s).effect
  | labelSentUnbeaten => exact (labelSentUnbeaten_calm s).effect

/-! ### One step -/

/-- A property that no waiting command matters to, and that a tick, a power-on reset and every effect of a command keep,
is kept by every step. -/
theorem stepKeeps_of {P : State → Prop} (pending : ∀ (s : State) (l : List Instr), P s → P { s with pending := l })
    (tick : ∀ s, P s → P (advanceTick s)) (power : ∀ (st : Straps) (s : State), P (powerOn st s))
    (command : ∀ s t, P s → CommandEffect s t → P t) : StepKeeps P := by
  intro s t hs hstep
  unfold step at hstep
  split at hstep
  · rename_i c rest _
    have hp := pending s rest hs
    by_cases hc : isPowerOn c
    · obtain ⟨pos, cnt, sec, rfl⟩ := hc
      cases hstep
      exact power _ _
    · rw [exec_inService c _ hc] at hstep
      cases hstep
      split
      · exact hp
      · exact command _ _ hp (effect_cases c _ hc)
  · cases hstep
    unfold idleStep
    split
    · exact tick s hs
    · exact pending s _ hs

/-- A property that each change to the train keeps is kept by any number of them. -/
theorem TrainActs.keep {P : State → Prop} (h : ∀ s t, TrainAct s t → P s → P t) {s t : State} (g : TrainActs s t)
    (hs : P s) : P t := by
  induction g with
  | refl => exact hs
  | tail _ a ih => exact h _ _ a ih

/-- A property that each act keeps is kept by any number of them. -/
theorem Acts.keep {P : State → Prop} (h : ∀ s t, Act s t → P s → P t) {s t : State} (g : Acts s t) (hs : P s) : P t := by
  induction g with
  | refl => exact hs
  | tail _ a ih => exact h _ _ a ih

end Sys2Proof.Machine
end

section
/-! The invariants of chapter 1: rate and train state, zeros, and what commands leave. -/

namespace Sys2Proof.Machine

/-! ### Rate, power, timers and train state -/

/-- `RateInv` reads these fields alone. -/
theorem RateInv.congr {s t : State} (hs : RateInv s) (hrate : t.rc.rate = s.rc.rate)
    (hquiet : t.rc.quietTimer = s.rc.quietTimer) (hrefresh : t.rc.refreshTimer = s.rc.refreshTimer)
    (hentry : t.rc.dormantEntry = s.rc.dormantEntry) (hfe : t.fe.powered = s.fe.powered)
    (hsettling : t.fe.settling = true → s.fe.settling = true) (hcount : t.fe.settleCount ≤ s.fe.settleCount)
    (hstate : t.train.state = s.train.state) (hclose : t.train.closeTimer = s.train.closeTimer)
    (hsite : t.conf.site = s.conf.site) (hstraps : t.conf.straps = s.conf.straps) : RateInv t where
  active := by rw [hrate, hstate]; exact hs.active
  activeTimers := by rw [hrate, hquiet, hrefresh, hentry]; exact hs.activeTimers
  quietTimers := by rw [hrate, hquiet, hrefresh, hentry]; exact hs.quietTimers
  dormantTimers := by
    rw [hrate, hquiet, hentry]
    intro h
    obtain ⟨hq, he, hf⟩ := hs.dormantTimers h
    exact ⟨hq, he, Bool.eq_false_iff.2 fun g => by simp [hsettling g] at hf⟩
  power := by rw [hfe, hrate]; exact hs.power
  settle := hcount.trans hs.settle
  site := by rw [hstate, hsite]; exact hs.site
  noSite := by
    rw [hsite, hquiet, hrefresh, hentry, hrate, State.strapFault, hstraps]
    exact hs.noSite
  closeTimer := by rw [hclose, hstate]; exact hs.closeTimer

theorem RateInv.calm {s t : State} (hs : RateInv s) (h : Calm s t) : RateInv t :=
  hs.congr (by rw [h.rc]) (by rw [h.rc]) (by rw [h.rc]) (by rw [h.rc]) (by rw [h.fe]) (by rw [h.fe]; exact id)
    (by rw [h.fe]) h.state h.closeTimer (by rw [h.conf]) (by rw [h.conf])

/-- A station in QUIET that meets the invariant. -/
theorem rateInv_of_quiet {t : State} (hrate : t.rc.rate = .quiet) (hrefresh : t.rc.refreshTimer = none)
    (hentry : t.rc.dormantEntry.isSome = true → t.rc.quietTimer = none)
    (hsite : t.conf.site = none → t.rc.quietTimer = none ∧ t.rc.dormantEntry = none) (hpower : t.fe.powered = true)
    (hcount : t.fe.settleCount ≤ 2048) (hstate : t.train.state = .noTrain) (hclose : t.train.closeTimer = none) :
    RateInv t := by
  constructor <;> simp_all

/-- A station in ACTIVE that meets the invariant. -/
theorem rateInv_of_active {t : State} (hrate : t.rc.rate = .active) (hquiet : t.rc.quietTimer = none)
    (hrefresh : t.rc.refreshTimer = none) (hentry : t.rc.dormantEntry = none) (hsite : t.conf.site.isSome = true)
    (hpower : t.fe.powered = true) (hcount : t.fe.settleCount ≤ 2048) (hstate : t.train.state ≠ .noTrain)
    (hclose : t.train.closeTimer.isSome = true) : RateInv t := by
  constructor <;> simp_all

/-- A station in DORMANT that meets the invariant. -/
theorem rateInv_of_dormant {t : State} (hrate : t.rc.rate = .dormant) (hquiet : t.rc.quietTimer = none)
    (hentry : t.rc.dormantEntry = none)
    (hsite : t.conf.site = none → t.rc.refreshTimer = none ∧ t.strapFault = true) (hpower : t.fe.powered = false)
    (hsettling : t.fe.settling = false) (hcount : t.fe.settleCount ≤ 2048) (hstate : t.train.state = .noTrain)
    (hclose : t.train.closeTimer = none) : RateInv t := by
  constructor <;> simp_all

/-- Outside ACTIVE no train is held and no close timer runs (R6, R160). -/
theorem RateInv.inactive {s : State} (h : RateInv s) (g : s.rc.rate ≠ .active) :
    s.train.state = .noTrain ∧ s.train.closeTimer = none := by
  have hs : s.train.state = .noTrain := by_contra fun n => g (h.active.2 n)
  exact ⟨hs, Option.not_isSome_iff_eq_none.1 fun n => h.closeTimer.1 n hs⟩

/-- While a train is held the rate is ACTIVE, with no timer of the Rate Controller (R6). -/
theorem RateInv.held {s : State} (h : RateInv s) (g : s.train.state ≠ .noTrain) :
    s.rc.rate = .active ∧ s.rc.quietTimer = none ∧ s.rc.refreshTimer = none ∧ s.rc.dormantEntry = none :=
  ⟨h.active.2 g, h.activeTimers (h.active.2 g)⟩

/-- Without a SITE a quiet timer started now does not run (R8). -/
theorem quietTimer_noSite (s : State) (h : s.conf.site = none) : timerFor s.tick s.quietTicks = none := by
  simp [timerFor, State.quietTicks, State.siteValue, h]

/-- The states that hold trains have a SITE (R168). -/
theorem holdsTrains_eq (s : State) : s.holdsTrains = s.conf.site.isSome := by
  unfold State.holdsTrains State.configState
  cases s.conf.cal.isSome <;> cases s.conf.site.isSome <;> cases s.zero.capturePending <;> rfl

/-- A timed event of QUIET is due only with a SITE held (R8, R9). -/
theorem RateInv.siteOfTimer {s : State} (h : RateInv s)
    (g : s.rc.quietTimer.isSome = true ∨ s.rc.dormantEntry.isSome = true) : s.conf.site ≠ none := by
  intro n
  obtain ⟨hq, -, he, -⟩ := h.noSite n
  simp [hq, he] at g

theorem wakeRate_rateInv {s : State} (h : RateInv s) : RateInv (wakeRate s) := by
  unfold wakeRate
  cases hr : s.rc.rate
  case active => exact h
  case quiet =>
    obtain ⟨hs, hc⟩ := h.inactive (by simp [hr])
    exact rateInv_of_quiet hr (h.quietTimers hr).1 (by simp) (fun n => ⟨quietTimer_noSite s n, rfl⟩)
      (h.power.2 (by simp [hr])) h.settle hs hc
  case dormant =>
    obtain ⟨hs, hc⟩ := h.inactive (by simp [hr])
    exact rateInv_of_quiet rfl rfl (by simp) (fun n => ⟨quietTimer_noSite s n, rfl⟩) rfl (by simp) hs hc

/-- A train that opens is ACTIVE with no timer of the Rate Controller and a powered Front End (R4, R6). -/
theorem openTrain_rateInv {s : State} (h : RateInv s) (d : Direction) (st : Standing) (n : Nat)
    (hn : s.train.state = .noTrain) (hs : s.holdsTrains = true) : RateInv (openTrain d st n s) := by
  have ha : s.rc.rate ≠ .active := fun g => h.active.1 g hn
  rw [holdsTrains_eq] at hs
  rw [openTrain_eq]
  cases hr : s.rc.rate
  case active => exact absurd hr ha
  case quiet =>
    exact rateInv_of_active (by simp [activeRate, hr]) (by simp [activeRate, hr])
      (by simpa [activeRate, hr] using (h.quietTimers hr).1) (by simp [activeRate, hr]) hs
      (h.power.2 (by simp [hr])) h.settle (by simp) rfl
  case dormant =>
    exact rateInv_of_active (by simp [activeRate, hr]) (by simp [activeRate, hr]) (by simp [activeRate, hr])
      (by simp [activeRate, hr]) hs rfl le_rfl (by simp) rfl

theorem dormantEntered_rateInv {s : State} (h : RateInv s) (hr : s.rc.rate = .quiet)
    (he : s.rc.dormantEntry.isSome = true) : RateInv (dormantEntered s) := by
  obtain ⟨hs, hc⟩ := h.inactive (by simp [hr])
  exact rateInv_of_dormant rfl rfl rfl (fun n => absurd n (h.siteOfTimer (.inr he))) rfl rfl (Nat.zero_le _) hs hc

theorem trainEnded_rateInv {s : State} (h : RateInv s) (hs : s.train.state ≠ .noTrain) : RateInv (trainEnded s) := by
  obtain ⟨hr, -, hf, he⟩ := h.held hs
  unfold trainEnded
  rw [requestQuiet_active { s with train := { s.train with state := .noTrain, closeTimer := none } } hr]
  exact rateInv_of_quiet rfl hf (by simp [he]) (fun n => ⟨quietTimer_noSite s n, he⟩) (h.power.2 (by simp [hr])) h.settle
    rfl rfl

/-- A held train whose state or close timer alone changes, the close timer running. -/
theorem RateInv.heldTrain {s t : State} (h : RateInv s) (hs : s.train.state ≠ .noTrain) (hrc : t.rc = s.rc)
    (hfe : t.fe = s.fe) (hconf : t.conf = s.conf) (ht : t.train.state ≠ .noTrain)
    (hc : t.train.closeTimer.isSome = true) : RateInv t := by
  obtain ⟨hr, hq, hf, he⟩ := h.held hs
  exact rateInv_of_active (by rw [hrc, hr]) (by rw [hrc, hq]) (by rw [hrc, hf]) (by rw [hrc, he])
    (by rw [hconf]; exact h.site hs) (by rw [hfe]; exact h.power.2 (by simp [hr])) (by rw [hfe]; exact h.settle) ht hc

theorem TrainAct.rateInv {s t : State} (a : TrainAct s t) (h : RateInv s) : RateInv t := by
  cases a with
  | calm g => exact h.calm g
  | opens d st n hn hs => exact openTrain_rateInv h d st n hn hs
  | restarts hs => exact h.heldTrain hs rfl rfl rfl hs rfl
  | abandons e hs => exact h.heldTrain (by simp [hs]) rfl rfl rfl (by simp [abandonedAt]) rfl
  | ends hs => exact trainEnded_rateInv h hs

theorem Act.rateInv {s t : State} (a : Act s t) (h : RateInv s) : RateInv t := by
  cases a with
  | train a => exact a.rateInv h
  | flags d l => exact h.congr rfl rfl rfl rfl rfl id le_rfl rfl rfl rfl rfl
  | hold d e => exact h.congr rfl rfl rfl rfl rfl id le_rfl rfl rfl rfl rfl
  | settled => exact h.congr rfl rfl rfl rfl rfl (by simp) le_rfl rfl rfl rfl rfl
  | woken => exact wakeRate_rateInv h
  | quietAgain hr hq =>
    obtain ⟨hs, hc⟩ := h.inactive (by simp [hr])
    obtain ⟨hf, hqe⟩ := h.quietTimers hr
    have he : s.rc.dormantEntry = none :=
      Option.not_isSome_iff_eq_none.1 fun n => by simp [hqe n] at hq
    exact rateInv_of_quiet hr hf (by simp [he]) (fun n => absurd n (h.siteOfTimer (.inl hq))) (h.power.2 (by simp [hr]))
      h.settle hs hc
  | entering e hr hq =>
    obtain ⟨hs, hc⟩ := h.inactive (by simp [hr])
    exact rateInv_of_quiet hr (h.quietTimers hr).1 (by simp) (fun n => absurd n (h.siteOfTimer (.inl hq)))
      (h.power.2 (by simp [hr])) h.settle hs hc
  | entered hr he => exact dormantEntered_rateInv h hr he
  | refused r => exact h.congr rfl rfl rfl rfl rfl id le_rfl rfl rfl rfl rfl

/-- No timer runs right after a power-on reset, and only a STRAP_FAULT station is DORMANT (R5, R167). -/
theorem powerOn_rateInv (st : Straps) (s : State) : RateInv (powerOn st s) := by
  unfold powerOn
  dsimp only
  split
  · rename_i hf
    exact rateInv_of_dormant rfl rfl rfl (fun _ => ⟨rfl, hf⟩) rfl rfl (Nat.zero_le _) rfl rfl
  · have h : RateInv (powerOnBlocks st s) := rateInv_of_quiet rfl rfl nofun (fun _ => ⟨rfl, rfl⟩) rfl le_rfl rfl rfl
    exact h.calm (offerPresence_frame _).calm

theorem advanceTick_rateInv {s : State} (h : RateInv s) : RateInv (advanceTick s) := by
  refine h.congr rfl rfl rfl rfl rfl id ?_ rfl rfl rfl rfl
  simp only [advanceTick_fe, tickFrontEnd]
  split <;> omega

theorem takeRestart_rateInv {s : State} (keep : Bool) (h : RateInv s) : RateInv (takeRestart keep s) := by
  have hp : (awakeFrontEnd s.rc.rate s.fe).powered = true ∧ (awakeFrontEnd s.rc.rate s.fe).settleCount ≤ 2048 := by
    unfold awakeFrontEnd
    split
    · exact ⟨rfl, le_rfl⟩
    · exact ⟨h.power.2 ‹_›, h.settle⟩
  rw [takeRestart_eq]
  refine RateInv.calm ?_ (offerPresence_frame _).calm
  exact rateInv_of_quiet rfl rfl nofun (fun n => ⟨congrArg (quietTimerOf s.tick) n, rfl⟩) hp.1 hp.2 rfl rfl

/-- Accepting a SITE restarts the quiet timer of a station in QUIET and starts no other timer (R11). -/
theorem acceptSite_rateInv {s : State} (st : Site) (h : RateInv s) : RateInv (acceptSite st s) := by
  have h' : RateInv { s with conf := { s.conf with site := some st, lastRefusal := .none } } :=
    { h with site := fun _ => rfl, noSite := nofun }
  refine RateInv.calm ?_ (offerPresence_frame _).calm
  unfold resizeQuiet
  split
  · rename_i g
    simp only [Bool.and_eq_true, beq_iff_eq, Option.isNone_iff_eq_none] at g
    obtain ⟨hr, he⟩ := g
    obtain ⟨hs, hc⟩ := h.inactive (by simp [hr])
    exact rateInv_of_quiet hr (h.quietTimers hr).1 (by simp [he]) nofun (h.power.2 (by simp [hr])) h.settle hs hc
  · exact h'

theorem judgeIdle_calm (p : Pair) (s : State) : Calm s (judgeIdle p s) := by
  unfold judgeIdle
  split
  · exact setFault_calm _ s
  · exact Calm.refl s

/-- What a pair can make of the Zero Tracker of `s` (R13, R15, R16): nothing, a tracking step, or a step of the capture
in flight. -/
inductive ZeroEffect (p : Pair) (s : State) (z : ZeroTracker) : Prop where
  | same (h : z = s.zero)
  | tracked (cal : Calibrate) (k : Nat) (hn : s.train.state = .noTrain) (h : z = { s.zero with
      left := trackChannel cal.band k cal.warn cal.limit p.left s.zero.left
      right := trackChannel cal.band k cal.warn cal.limit p.right s.zero.right })
  | discarded (h : z = { s.zero with count := 0, sumL := 0, sumR := 0 })
  | counted (hp : p.clipped = false) (hc : s.zero.count + 1 < 256) (h : z = countPair p s.zero)
  | completed (hn : s.train.state = .noTrain) (hcal : s.conf.cal.isSome = true) (hm : s.zero.capturePending = true)
      (hp : p.clipped = false) (h : z = captured (countPair p s.zero))

theorem ZeroEffect.congr {p : Pair} {s t : State} {z : ZeroTracker} (e : ZeroEffect p t z) (hzero : t.zero = s.zero)
    (hconf : t.conf = s.conf) (hstate : t.train.state = s.train.state) : ZeroEffect p s z := by
  cases e with
  | same hz => exact .same (hz.trans hzero)
  | tracked cal k hn hz => exact .tracked cal k (hstate ▸ hn) (hzero ▸ hz)
  | discarded hz => exact .discarded (hzero ▸ hz)
  | counted hp hc hz => exact .counted hp (hzero ▸ hc) (hzero ▸ hz)
  | completed hn hcal hm hp hz => exact .completed (hstate ▸ hn) (hconf ▸ hcal) (hzero ▸ hm) hp (hzero ▸ hz)

theorem not_trainHeld_iff (s : State) : (!s.trainHeld) = true ↔ s.train.state = .noTrain := by simp [State.trainHeld]

/-- What the Zero Tracker does with a pair it does to its own block, `Calm` changes beside it. -/
theorem zeroTake_calm (p : Pair) (s : State) : ∃ z, ZeroEffect p s z ∧ Calm { s with zero := z } (zeroTake p s) := by
  unfold zeroTake
  split
  · exact ⟨s.zero, .same rfl, Calm.refl s⟩
  · rename_i cal hcal
    split
    · rename_i g
      have hn : s.train.state = .noTrain := (not_trainHeld_iff s).1 (Bool.and_eq_true _ _ ▸ g).2
      split
      · rename_i hm
        unfold capturePair
        split
        · exact ⟨_, .discarded rfl, Calm.refl _⟩
        · rename_i hp
          rw [Bool.not_eq_true] at hp
          dsimp only
          split
          · exact ⟨_, .counted hp ‹_› rfl, Calm.refl _⟩
          · have e := ZeroEffect.completed hn (by rw [hcal]; rfl) hm hp rfl
            split
            · exact ⟨_, e, (offerPresence_frame _).calm⟩
            · exact ⟨_, e, Calm.refl _⟩
      · unfold trackPair
        dsimp only
        split
        · exact ⟨_, .tracked cal _ hn rfl, setFault_calm _ _⟩
        · exact ⟨_, .tracked cal _ hn rfl, Calm.refl _⟩
    · exact ⟨s.zero, .same rfl, Calm.refl s⟩

/-- A pair writes the mark of the Front End and the Zero Tracker, `Calm` changes beside it. -/
theorem producePair_calm (l r : Sample) (s : State) : ∃ z, ZeroEffect (s.pairNow l r) s z ∧
    Calm { s with fe := { s.fe with pairDone := true }, zero := z } (producePair l r s) := by
  have h := judgeIdle_calm (s.pairNow l r) { s with fe := { s.fe with pairDone := true } }
  obtain ⟨z, e, g⟩ := zeroTake_calm (s.pairNow l r) (judgeIdle (s.pairNow l r) { s with fe := { s.fe with pairDone := true } })
  have hz : Calm { s with fe := { s.fe with pairDone := true }, zero := z }
      { (judgeIdle (s.pairNow l r) { s with fe := { s.fe with pairDone := true } }) with zero := z } :=
    { h with zero := rfl }
  exact ⟨z, e.congr h.zero h.conf h.state, (hz.trans g).trans (calm_blocks _ _ _ _)⟩

theorem Acts.rateInv {s t : State} (a : Acts s t) (h : RateInv s) : RateInv t := a.keep (fun _ _ => Act.rateInv) h

theorem CommandEffect.rateInv {s t : State} (e : CommandEffect s t) (h : RateInv s) : RateInv t := by
  have hd : RateInv s.delivered := (delivered_acts s).rateInv h
  cases e with
  | acts a => exact a.rateInv h
  | pair l r ht =>
    obtain ⟨z, -, g⟩ := producePair_calm l r s
    have hz : RateInv { s with fe := { s.fe with pairDone := true }, zero := z } :=
      h.congr rfl rfl rfl rfl rfl id le_rfl rfl rfl rfl rfl
    exact ht ▸ hz.calm g
  | calibrate p c hc hs ht =>
    have hz : RateInv { s.delivered with
        zero := calibratedZero c s.delivered.zero
        conf := { s.delivered.conf with cal := some c, lastRefusal := .none } } :=
      hd.congr rfl rfl rfl rfl rfl id le_rfl rfl rfl rfl rfl
    exact ht ▸ hz.calm (offerPresence_frame _).calm
  | site st hs ht => exact ht ▸ acceptSite_rateInv st hd
  | restart keep ht => exact ht ▸ takeRestart_rateInv keep hd

/-- Settles O9: each transition a command, a tick or a power-on reset makes keeps the invariant. -/
theorem rateInvKept : Obligations.RateInvKept :=
  stepKeeps_of (fun _ _ h => h.congr rfl rfl rfl rfl rfl id le_rfl rfl rfl rfl rfl) (fun _ => advanceTick_rateInv)
    powerOn_rateInv (fun _ _ h e => e.rateInv h)

/-! ### Tick, straps and waiting commands -/

/-- The tick count, the straps and the waiting commands of `s`. -/
def SameClock (s t : State) : Prop := t.pending = s.pending ∧ t.tick = s.tick ∧ t.conf.straps = s.conf.straps

theorem SameClock.trans {s t u : State} (h : SameClock s t) (g : SameClock t u) : SameClock s u :=
  ⟨g.1.trans h.1, g.2.1.trans h.2.1, g.2.2.trans h.2.2⟩

theorem Calm.sameClock {s t : State} (h : Calm s t) : SameClock s t := ⟨h.pending, h.tick, by rw [h.conf]⟩

theorem wakeRate_sameClock (s : State) : SameClock s (wakeRate s) := by
  unfold wakeRate
  split <;> exact ⟨rfl, rfl, rfl⟩

theorem requestQuiet_sameClock (s : State) : SameClock s (requestQuiet s) := by
  unfold requestQuiet
  split <;> exact ⟨rfl, rfl, rfl⟩

theorem TrainAct.sameClock {s t : State} (a : TrainAct s t) : SameClock s t := by
  cases a with
  | calm h => exact h.sameClock
  | opens d st n h g => rw [openTrain_eq]; exact ⟨rfl, rfl, rfl⟩
  | restarts h => exact ⟨rfl, rfl, rfl⟩
  | abandons e h => exact ⟨rfl, rfl, rfl⟩
  | ends h => exact requestQuiet_sameClock { s with train := { s.train with state := .noTrain, closeTimer := none } }

theorem Act.sameClock {s t : State} (a : Act s t) : SameClock s t := by
  cases a with
  | train a => exact a.sameClock
  | woken => exact wakeRate_sameClock s
  | _ => exact ⟨rfl, rfl, rfl⟩

theorem Acts.sameClock {s t : State} (a : Acts s t) : SameClock s t :=
  a.keep (P := SameClock s) (fun _ _ b h => h.trans b.sameClock) ⟨rfl, rfl, rfl⟩

theorem takeRestart_sameClock (keep : Bool) (s : State) : SameClock s (takeRestart keep s) := by
  rw [takeRestart_eq]
  exact (offerPresence_frame _).calm.sameClock

theorem acceptSite_sameClock (st : Site) (s : State) : SameClock s (acceptSite st s) := by
  refine SameClock.trans ?_ (offerPresence_frame _).calm.sameClock
  unfold resizeQuiet
  split <;> exact ⟨rfl, rfl, rfl⟩

theorem CommandEffect.sameClock {s t : State} (e : CommandEffect s t) : SameClock s t := by
  have hd : SameClock s s.delivered := (delivered_acts s).sameClock
  cases e with
  | acts a => exact a.sameClock
  | pair l r h =>
    obtain ⟨z, -, g⟩ := producePair_calm l r s
    exact h ▸ g.sameClock
  | calibrate p c hc hs h => exact h ▸ (offerPresence_frame _).calm.sameClock
  | site st hs h => exact h ▸ hd.trans (acceptSite_sameClock st _)
  | restart keep h => exact h ▸ hd.trans (takeRestart_sameClock keep _)

/-- A power-on reset leaves the waiting commands (log entry 25). -/
theorem powerOn_pending (st : Straps) (s : State) : (powerOn st s).pending = s.pending := by
  unfold powerOn
  dsimp only
  split
  · rfl
  · exact (offerPresence_frame _).calm.pending

theorem exec_answers (c : Instr) (s : State) : ∃ t, exec c s = .next t := by
  by_cases h : isPowerOn c
  · obtain ⟨pos, cnt, sec, rfl⟩ := h
    exact ⟨_, rfl⟩
  · exact ⟨_, exec_inService c s h⟩

/-- What a command other than power-on reset answers: the same state in STRAP_FAULT, its effect otherwise. -/
theorem exec_next {c : Instr} {s t : State} (h : ¬ isPowerOn c) (e : exec c s = .next t) :
    t = s ∨ CommandEffect s t := by
  rw [exec_inService c s h] at e
  cases e
  split
  · exact .inl rfl
  · exact .inr (effect_cases c s h)

theorem exec_sameClock {c : Instr} {s t : State} (h : ¬ isPowerOn c) (e : exec c s = .next t) : SameClock s t := by
  rcases exec_next h e with rfl | g
  · exact ⟨rfl, rfl, rfl⟩
  · exact g.sameClock

/-- Settles O3: no command stops, in STRAP_FAULT none has an effect, and each effect keeps clock and straps. -/
theorem commandsAnswer : Obligations.CommandsAnswer := by
  refine ⟨⟨exec_answers, fun c s hs hc => ?_⟩, fun c s t e => ?_⟩
  · rw [exec_inService c s hc]
    exact inService_strapFault _ s hs
  · by_cases hc : isPowerOn c
    · refine ⟨?_, fun h => absurd hc h⟩
      obtain ⟨pos, cnt, sec, rfl⟩ := hc
      cases e
      exact powerOn_pending _ s
    · obtain ⟨hp, ht, hst⟩ := exec_sameClock hc e
      exact ⟨hp, fun _ => ⟨ht, hst⟩⟩

/-! ### Zeros and capture sums -/

/-- An unclipped sample lies strictly between the end values (R3). -/
theorem unclipped_range (x : Sample) (h : clippedSample x = false) : -8388607 ≤ x.toInt ∧ x.toInt ≤ 8388606 := by
  have hlo := BitVec.le_toInt x
  have hhi := BitVec.toInt_lt (x := x)
  simp only [clippedSample, Bool.or_eq_false_iff, beq_eq_false_iff_ne] at h
  omega

/-- A truncated quotient is 0, or it keeps the sign of its number and does not exceed it. -/
theorem tdiv_toward_zero (d : Int) (m : Nat) :
    d.tdiv m = 0 ∨ (0 < d.tdiv m ∧ d.tdiv m ≤ d) ∨ (d ≤ d.tdiv m ∧ d.tdiv m < 0) := by
  have hle := Int.natAbs_tdiv_le_natAbs d m
  rcases le_total 0 d with hd | hd
  · have := Int.tdiv_nonneg hd (Int.natCast_nonneg m)
    omega
  · have := Int.tdiv_nonneg (Int.neg_nonneg.2 hd) (Int.natCast_nonneg m)
    rw [Int.neg_tdiv] at this
    omega

/-- A tracking step leaves the zero, or moves it towards the sample and not beyond it, and leaves zcal256 (R13). -/
theorem trackChannel_toward (band k warn limit : Nat) (x : Sample) (c : ZeroChannel) :
    let t := trackChannel band k warn limit x c
    t.zcal256 = c.zcal256 ∧ (t.z256 = c.z256 ∨ clippedSample x = false ∧
      ((c.z256 < t.z256 ∧ t.z256 ≤ 256 * x.toInt) ∨ (256 * x.toInt ≤ t.z256 ∧ t.z256 < c.z256))) := by
  unfold trackChannel
  split
  · exact ⟨rfl, .inl rfl⟩
  · rename_i hx
    dsimp only
    split
    · exact ⟨rfl, .inl rfl⟩
    · refine ⟨rfl, ?_⟩
      have h := tdiv_toward_zero (256 * x.toInt - c.z256) (2 ^ k)
      rw [Bool.not_eq_true] at hx
      simp only [truncDiv, hx, true_and]
      omega

theorem trackChannel_inZeroRange (band k warn limit : Nat) (x : Sample) (c : ZeroChannel)
    (h : inZeroRange c.z256 ∧ inZeroRange c.zcal256) :
    let t := trackChannel band k warn limit x c
    inZeroRange t.z256 ∧ inZeroRange t.zcal256 := by
  obtain ⟨hcal, hz⟩ := trackChannel_toward band k warn limit x c
  dsimp only at hcal hz ⊢
  refine ⟨?_, hcal ▸ h.2⟩
  rcases hz with hz | ⟨hx, hz⟩
  · exact hz ▸ h.1
  · have hr := unclipped_range x hx
    unfold inZeroRange at *
    omega

/-- Count and sums cleared meet the invariant when both zeros do. -/
theorem zeroInv_of_cleared {z : ZeroTracker} (hl : inZeroRange z.left.z256 ∧ inZeroRange z.left.zcal256)
    (hr : inZeroRange z.right.z256 ∧ inZeroRange z.right.zcal256) (hc : z.count = 0) (hsl : z.sumL = 0)
    (hsr : z.sumR = 0) : ZeroInv z := ⟨hl, hr, by omega, by simp [hsl, hsr]⟩

theorem ZeroInv.cleared {z : ZeroTracker} (h : ZeroInv z) : ZeroInv { z with count := 0, sumL := 0, sumR := 0 } :=
  zeroInv_of_cleared h.left h.right rfl rfl rfl

/-- The sums of one more unclipped pair (R15). -/
theorem countPair_sums {p : Pair} {z : ZeroTracker} (h : ZeroInv z) (hp : p.clipped = false) :
    (countPair p z).sumL.natAbs ≤ (countPair p z).count * 8388607 ∧
      (countPair p z).sumR.natAbs ≤ (countPair p z).count * 8388607 := by
  simp only [Pair.clipped, Bool.or_eq_false_iff] at hp
  have hl := unclipped_range _ hp.1
  have hr := unclipped_range _ hp.2
  have hs := h.sums
  simp only [countPair]
  omega

theorem ZeroEffect.zeroInv {p : Pair} {s : State} {z : ZeroTracker} (e : ZeroEffect p s z) (h : ZeroInv s.zero) :
    ZeroInv z := by
  cases e with
  | same hz => exact hz ▸ h
  | tracked cal k hn hz =>
    subst hz
    exact ⟨trackChannel_inZeroRange _ _ _ _ _ _ h.left, trackChannel_inZeroRange _ _ _ _ _ _ h.right, h.count, h.sums⟩
  | discarded hz => exact hz ▸ h.cleared
  | counted hp hc hz =>
    subst hz
    exact ⟨h.left, h.right, hc, countPair_sums h hp⟩
  | completed hn hcal hm hp hz =>
    subst hz
    obtain ⟨hl, hr⟩ := countPair_sums h hp
    have hc := h.count
    have hn : (countPair p s.zero).count = s.zero.count + 1 := rfl
    have zeroed : ∀ x : Int, x.natAbs ≤ (countPair p s.zero).count * 8388607 → inZeroRange x := by
      intro x hx
      unfold inZeroRange
      omega
    exact zeroInv_of_cleared ⟨zeroed _ hl, zeroed _ hl⟩ ⟨zeroed _ hr, zeroed _ hr⟩ rfl rfl rfl

theorem wakeRate_zero (s : State) : (wakeRate s).zero = s.zero := by
  unfold wakeRate
  split <;> rfl

theorem requestQuiet_zero (s : State) : (requestQuiet s).zero = s.zero := by
  unfold requestQuiet
  split <;> rfl

/-- A change to the train leaves the zeros; an opening discards a capture's count and sums (R16). -/
theorem TrainAct.zero {s t : State} (a : TrainAct s t) :
    t.zero = s.zero ∨ t.zero = { s.zero with count := 0, sumL := 0, sumR := 0 } := by
  cases a with
  | calm h => exact .inl h.zero
  | opens d st n h g => rw [openTrain_eq]; exact .inr rfl
  | restarts h => exact .inl rfl
  | abandons e h => exact .inl rfl
  | ends h => exact .inl (requestQuiet_zero { s with train := { s.train with state := .noTrain, closeTimer := none } })

theorem Act.zero {s t : State} (a : Act s t) :
    t.zero = s.zero ∨ t.zero = { s.zero with count := 0, sumL := 0, sumR := 0 } := by
  cases a with
  | train a => exact a.zero
  | woken => exact .inl (wakeRate_zero s)
  | _ => exact .inl rfl

theorem Acts.zero {s t : State} (a : Acts s t) :
    t.zero = s.zero ∨ t.zero = { s.zero with count := 0, sumL := 0, sumR := 0 } := by
  refine a.keep (P := fun t => t.zero = s.zero ∨ t.zero = { s.zero with count := 0, sumL := 0, sumR := 0 })
    (fun u v b h => ?_) (.inl rfl)
  rcases b.zero with g | g <;> rcases h with h | h <;> simp [g, h]

/-- A signed three-byte field lies in the sample range, and so does the zero it sets (R12, R176). -/
theorem getSigned3_range (p : List Byte) (i : Nat) : -8388608 ≤ getSigned3 p i ∧ getSigned3 p i ≤ 8388607 := by
  have hlo := BitVec.le_toInt (BitVec.ofNat 24 (get3 p i))
  have hhi := BitVec.toInt_lt (x := BitVec.ofNat 24 (get3 p i))
  unfold getSigned3
  omega

/-- The zeros of an accepted CALIBRATE are fields of its payload (R176). -/
theorem readCalibrate_zeros {p : List Byte} {c : Calibrate} (h : readCalibrate p = some c) :
    c.zeroL = getSigned3 p 8 ∧ c.zeroR = getSigned3 p 11 := by
  unfold readCalibrate at h
  split at h
  · cases h
  · dsimp only at h
    split at h
    · cases h
    · cases h
      exact ⟨rfl, rfl⟩

theorem acceptCalibrate_zero (c : Calibrate) (s : State) : (acceptCalibrate c s).zero = calibratedZero c s.zero :=
  (offerPresence_frame _).calm.zero

theorem acceptSite_zero (st : Site) (s : State) : (acceptSite st s).zero = s.zero := by
  refine (offerPresence_frame _).calm.zero.trans ?_
  unfold resizeQuiet
  split <;> rfl

theorem takeRestart_zero (keep : Bool) (s : State) : (takeRestart keep s).zero = restartZero keep s.zero := by
  rw [takeRestart_eq]
  exact (offerPresence_frame _).calm.zero

/-- A RESTART keeps both zeros of each channel (R20). -/
theorem restartZero_keeps (keep : Bool) (z : ZeroTracker) :
    (restartZero keep z).left.z256 = z.left.z256 ∧ (restartZero keep z).left.zcal256 = z.left.zcal256 ∧
    (restartZero keep z).right.z256 = z.right.z256 ∧ (restartZero keep z).right.zcal256 = z.right.zcal256 ∧
    (restartZero keep z).count = 0 ∧ (restartZero keep z).sumL = 0 ∧ (restartZero keep z).sumR = 0 := by
  cases keep <;> exact ⟨rfl, rfl, rfl, rfl, rfl, rfl, rfl⟩

theorem calibratedZero_inv (c : Calibrate) (z : ZeroTracker) (hl : -8388608 ≤ c.zeroL ∧ c.zeroL ≤ 8388607)
    (hr : -8388608 ≤ c.zeroR ∧ c.zeroR ≤ 8388607) : ZeroInv (calibratedZero c z) := by
  have zeroed : ∀ x : Int, -8388608 ≤ x ∧ x ≤ 8388607 → inZeroRange (256 * x) := by
    intro x hx
    unfold inZeroRange
    omega
  exact zeroInv_of_cleared ⟨zeroed _ hl, zeroed _ hl⟩ ⟨zeroed _ hr, zeroed _ hr⟩ rfl rfl rfl

theorem delivered_zero (s : State) : s.delivered.zero = s.zero := rfl

theorem CommandEffect.zeroInv {s t : State} (e : CommandEffect s t) (h : ZeroInv s.zero) : ZeroInv t.zero := by
  cases e with
  | acts a =>
    rcases a.zero with g | g
    · exact g ▸ h
    · exact g ▸ h.cleared
  | pair l r ht =>
    obtain ⟨z, e, g⟩ := producePair_calm l r s
    rw [ht, g.zero]
    exact e.zeroInv h
  | calibrate p c hc hs ht =>
    obtain ⟨hl, hr⟩ := readCalibrate_zeros hc
    rw [ht, acceptCalibrate_zero]
    exact calibratedZero_inv c _ (hl ▸ getSigned3_range p 8) (hr ▸ getSigned3_range p 11)
  | site st hs ht => rw [ht, acceptSite_zero]; exact h
  | restart keep ht =>
    rw [ht, takeRestart_zero, delivered_zero]
    obtain ⟨hl, hlc, hr, hrc, hc, hsl, hsr⟩ := restartZero_keeps keep s.zero
    exact zeroInv_of_cleared (hl ▸ hlc ▸ h.left) (hr ▸ hrc ▸ h.right) hc hsl hsr

/-- A power-on reset clears the Zero Tracker (R12). -/
theorem powerOn_zero (st : Straps) (s : State) : (powerOn st s).zero = State.reset.zero := by
  unfold powerOn
  dsimp only
  split
  · rfl
  · exact (offerPresence_frame _).calm.zero

theorem reset_zeroInv : ZeroInv State.reset.zero :=
  zeroInv_of_cleared (by unfold inZeroRange; decide) (by unfold inZeroRange; decide) rfl rfl rfl

/-- Settles O10: each write of the zeros and sums stays in its range. -/
theorem zeroInvKept : Obligations.ZeroInvKept :=
  stepKeeps_of (P := fun s => ZeroInv s.zero) (fun _ _ h => h) (fun _ h => h)
    (fun st s => (powerOn_zero st s).symm ▸ reset_zeroInv) (fun _ _ h e => e.zeroInv h)

/-! ### What writes the zeros -/

/-- Settles O6: of all effects of a command only an accepted CALIBRATE and a completed capture write zcal256, and only
the first writes z256 with a train held. -/
theorem zeroWrites : Obligations.ZeroWrites := by
  intro c s t e hc
  rcases exec_next hc e with rfl | g
  · exact ⟨fun h => by simp at h, fun _ _ => ⟨rfl, rfl⟩⟩
  · cases g with
    | acts a =>
      rcases a.zero with h | h <;> exact ⟨fun n => by simp [h] at n, fun _ _ => by simp [h]⟩
    | pair l r ht =>
      obtain ⟨z, e, g⟩ := producePair_calm l r s
      have hz : t.zero = z := ht ▸ g.zero
      rw [hz]
      cases e with
      | same h => exact ⟨fun n => by simp [h] at n, fun _ _ => by simp [h]⟩
      | tracked cal k hn h =>
        refine ⟨fun n => ?_, fun n => absurd hn n⟩
        rw [h] at n
        simp [(trackChannel_toward _ _ _ _ _ _).1] at n
      | discarded h => exact ⟨fun n => by simp [h] at n, fun _ _ => by simp [h]⟩
      | counted hp hn h => exact ⟨fun n => by simp [h, countPair] at n, fun _ _ => by simp [h, countPair]⟩
      | completed hn hcal hm hp h => exact ⟨fun _ => .inr ⟨hm, h ▸ rfl, hcal⟩, fun n => absurd hn n⟩
    | calibrate p k hk hs ht =>
      have hcal : t.conf.cal.isSome = true := by
        rw [ht]
        exact congrArg (fun c => c.cal.isSome) (offerPresence_frame _).calm.conf
      exact ⟨fun _ => .inl ⟨hs, hcal⟩, fun _ n => by simp [n hs] at hcal⟩
    | site st hs ht =>
      have hz : t.zero = s.zero := ht ▸ acceptSite_zero st s.delivered
      exact ⟨fun n => by simp [hz] at n, fun _ _ => by simp [hz]⟩
    | restart keep ht =>
      obtain ⟨hl, hlc, hr, hrc, -⟩ := restartZero_keeps keep s.zero
      have hz : t.zero = restartZero keep s.zero := ht ▸ takeRestart_zero keep s.delivered
      exact ⟨fun n => by simp [hz, hlc, hrc] at n, fun _ _ => by simp [hz, hl, hr]⟩

end Sys2Proof.Machine
end

section
/-! Timed events of the Rate Controller and the Front End, the idle step and power-on reset, written out. -/

namespace Sys2Proof.Machine

/-! ### The Rate Controller's events -/

/-- A wake event in QUIET (R7). -/
theorem wakeRate_quiet (s : State) (h : s.rc.rate = .quiet) : wakeRate s =
    { s with rc := { s.rc with dormantEntry := none, quietTimer := quietTimerOf s.tick s.conf.site } } := by
  unfold wakeRate
  rw [h]
  exact startQuietTimer_eq _

/-- A wake event, or the refresh timer's expiry, in DORMANT (R4, R7, R10). -/
theorem wakeRate_dormant (s : State) (h : s.rc.rate = .dormant) : wakeRate s =
    { s with
      fe := { s.fe with powered := true, settling := true, settleCount := 2048, settledMark := false }
      rc := { s.rc with rate := .quiet, refreshTimer := none, dormantEntry := none
                        quietTimer := quietTimerOf s.tick s.conf.site } } := by
  unfold wakeRate
  rw [h]
  exact startQuietTimer_eq _

/-- A wake event in ACTIVE (R7). -/
theorem wakeRate_active (s : State) (h : s.rc.rate = .active) : wakeRate s = s := by
  unfold wakeRate
  rw [h]

theorem clearFlag_rate (rc : RateControl) (w : WakeSource) : (rc.clearFlag w).rate = rc.rate := by cases w <;> rfl

theorem takeWake_set (w : WakeSource) (s : State) (h : s.rc.flag w = true) :
    takeWake w s = wakeRate { s with rc := s.rc.clearFlag w } := if_pos h

theorem takeWake_unset (w : WakeSource) (s : State) (h : s.rc.flag w = false) : takeWake w s = s :=
  if_neg (by simp [h])

/-- The four rows of R7, for either flag. -/
theorem takeWake_rows (w : WakeSource) (s : State) :
    (s.rc.flag w = false → takeWake w s = s) ∧
    (s.rc.flag w = true → s.rc.rate = .active → takeWake w s = { s with rc := s.rc.clearFlag w }) ∧
    (s.rc.flag w = true → s.rc.rate = .quiet → takeWake w s =
      { s with rc := { s.rc.clearFlag w with dormantEntry := none, quietTimer := quietTimerOf s.tick s.conf.site } }) ∧
    (s.rc.flag w = true → s.rc.rate = .dormant → takeWake w s =
      { s with
        fe := { s.fe with powered := true, settling := true, settleCount := 2048, settledMark := false }
        rc := { s.rc.clearFlag w with rate := .quiet, refreshTimer := none, dormantEntry := none
                                      quietTimer := quietTimerOf s.tick s.conf.site } }) := by
  have hr := clearFlag_rate s.rc w
  refine ⟨takeWake_unset w s, fun hf h => ?_, fun hf h => ?_, fun hf h => ?_⟩
  · rw [takeWake_set w s hf, wakeRate_active _ (hr.trans h)]
  · rw [takeWake_set w s hf, wakeRate_quiet _ (hr.trans h)]
  · rw [takeWake_set w s hf, wakeRate_dormant _ (hr.trans h)]

/-- Settles O35, a case for each flag and rate state. -/
theorem wakeEventRows : Obligations.WakeEventRows := by
  intro s w hs
  have e : exec (.wakeEvent w) s = .next (takeWake w s) := inService_next _ s hs
  obtain ⟨hclear, hactive, hquiet, hdormant⟩ := takeWake_rows w s
  rw [e]
  cases w with
  | detector =>
    exact ⟨fun hf => congrArg _ (hclear hf), fun hf h => congrArg _ (hactive hf h), fun hf h => congrArg _ (hquiet hf h),
      fun hf h => congrArg _ (hdormant hf h)⟩
  | link =>
    exact ⟨fun hf => congrArg _ (hclear hf), fun hf h => congrArg _ (hactive hf h), fun hf h => congrArg _ (hquiet hf h),
      fun hf h => congrArg _ (hdormant hf h)⟩

/-- A running timer is due exactly when its tick has been reached (R1). -/
theorem timerDue_some (s : State) {t : Option Tick} {e : Tick} (h : t = some e) : timerDue s.tick t = true ↔ s.reached e := by
  subst h
  exact tickReached_iff s e

theorem quietTimerExpiry_due (s : State) (e : Tick) (hr : s.rc.rate = .quiet) (ht : s.rc.quietTimer = some e)
    (h : s.reached e) : quietTimerExpiry s = quietExpired s :=
  if_pos (by simp [hr, (timerDue_some s ht).2 h])

theorem quietTimerExpiry_early (s : State) (e : Tick) (ht : s.rc.quietTimer = some e) (h : ¬ s.reached e) :
    quietTimerExpiry s = s :=
  if_neg (by simp [mt (timerDue_some s ht).1 h])

/-- In QUIET the pending wake flags are taken one after the other (R8, log entry 22). -/
theorem takeWakes_quiet (s : State) (hr : s.rc.rate = .quiet) (h : s.rc.detectorWake = true ∨ s.rc.linkWake = true) :
    takeWake .link (takeWake .detector s) =
      { s with rc := { s.rc with detectorWake := false, linkWake := false, dormantEntry := none
                                 quietTimer := quietTimerOf s.tick s.conf.site } } := by
  cases hd : s.rc.detectorWake
  · have hl : s.rc.linkWake = true := by simpa [hd] using h
    rw [takeWake_unset .detector s hd, takeWake_set .link s hl, wakeRate_quiet _ (by exact hr)]
    simp [RateControl.clearFlag, hd]
  · rw [takeWake_set .detector s hd, wakeRate_quiet _ (by exact hr)]
    cases hl : s.rc.linkWake
    · rw [takeWake_unset .link _ (by exact hl)]
      simp [RateControl.clearFlag, hl]
    · rw [takeWake_set .link _ (by exact hl), wakeRate_quiet _ (by exact hr)]
      rfl

theorem quietTimerOf_some (now : Tick) (st : Site) (h : st.quiet ≠ 0) :
    quietTimerOf now (some st) = some (now + BitVec.ofNat 32 (st.quiet * 8192)) := if_neg h

/-- Settles O33: the three paths of an expiry that is due. -/
theorem quietTimerPaths : Obligations.QuietTimerPaths := by
  intro s st e hs hsite hq hr ht
  have hx : exec .quietTimerExpiry s = .next (quietTimerExpiry s) := inService_next _ s hs
  have htimer : quietTimerOf s.tick s.conf.site = some (s.tick + BitVec.ofNat 32 (st.quiet * 8192)) := by
    rw [hsite, quietTimerOf_some _ _ hq]
  refine ⟨fun h => ?_, fun h hw => ?_, fun h hd hl hm hc => ?_, fun h hd hl hm => ?_⟩
  · rw [hx, quietTimerExpiry_early s e ht h]
  · rw [hx, quietTimerExpiry_due s e hr ht h, quietExpired, if_pos (by simpa using hw), takeWakes_quiet s hr hw, htimer]
  · have hf : s.captureInFlight = true := by simp [State.captureInFlight, hm, Option.isSome_iff_ne_none, hc]
    rw [hx, quietTimerExpiry_due s e hr ht h, quietExpired, if_neg (by simp [hd, hl]), if_pos hf, startQuietTimer_eq,
      htimer]
  · have hf : s.captureInFlight = false := by
      rcases hm with hm | hm <;> simp [State.captureInFlight, hm]
    rw [hx, quietTimerExpiry_due s e hr ht h, quietExpired, if_neg (by simp [hd, hl]), if_neg (by simp [hf])]
    rfl

/-- The dormant entry with a SITE held (R9, R10). -/
theorem dormantEntered_eq (s : State) (st : Site) (h : s.conf.site = some st) : dormantEntered s =
    { s with
      fe := { s.fe with powered := false, settling := false, settleCount := 0, settledMark := false
                        pairRate := .dormant }
      rc := { s.rc with rate := .dormant, quietTimer := none, dormantEntry := none
                        refreshTimer := if st.refresh = 0 then none
                          else some (s.tick + BitVec.ofNat 32 (st.refresh * 8192)) } } := by
  rw [← timerFor_seconds, ← show s.refreshTicks = st.refresh * Config.ticksPerSecond by
    simp [State.refreshTicks, State.siteValue, h]]
  rfl

/-- Settles O34, due and not due for each of the three events. -/
theorem frontEndTimers : Obligations.FrontEndTimers := by
  refine ⟨fun s e hs hr ht => ?_, fun s e hs hr ht => ?_, fun s hs => ?_⟩
  · have hx : exec .dormantEntryComplete s = .next (dormantEntryComplete s) := inService_next _ s hs
    refine ⟨fun h => ?_, fun h st hsite => ?_⟩
    · rw [hx, dormantEntryComplete, if_neg (by simp [mt (timerDue_some s ht).1 h])]
    · rw [hx, dormantEntryComplete, if_pos (by simp [hr, (timerDue_some s ht).2 h]), dormantEntered_eq s st hsite]
  · have hx : exec .refreshTimerExpiry s = .next (refreshTimerExpiry s) := inService_next _ s hs
    refine ⟨fun h => ?_, fun h st hsite => ?_⟩
    · rw [hx, refreshTimerExpiry, if_neg (by simp [mt (timerDue_some s ht).1 h])]
    · rw [hx, refreshTimerExpiry, if_pos (by simp [hr, (timerDue_some s ht).2 h]), wakeRate_dormant s hr, hsite]
      rfl
  · have hx : exec .settlingComplete s = .next (settlingComplete s) := inService_next _ s hs
    refine ⟨fun h g => ?_, fun h => ?_⟩
    · rw [hx, settlingComplete, if_pos (by simp [h, g])]
    · rw [hx, settlingComplete, if_neg (by rcases h with h | h <;> simp [h])]

/-! ### The idle step -/

theorem mem_whenDue {b : Bool} {c d : Instr} : c ∈ whenDue b d ↔ c = d ∧ b = true := by
  cases b <;> simp [whenDue]

theorem timerDue_iff (s : State) (t : Option Tick) : timerDue s.tick t = true ↔ ∃ e, t = some e ∧ s.reached e := by
  cases t with
  | none => simp [timerDue]
  | some e => simp [timerDue, tickReached_iff]

theorem holdDue_iff (s : State) (d : Detector) : holdDue s.tick (s.wheel.hold d) = true ↔
    ∃ e, s.wheel.hold d = some e ∧ 1 ≤ (s.tick - e).toNat ∧ (s.tick - e).toNat ≤ 2147483647 := by
  unfold holdDue
  rw [Bool.and_eq_true, holdEnded_iff, State.holdOver]
  cases s.wheel.hold d <;> simp

theorem slotDue_iff (s : State) (i : Fin 16) : slotDue s.tick s.table.slots[i] = true ↔
    ∃ x e, s.table.slots[i] = .opened x e ∧ s.reached e := by
  unfold slotDue
  split
  · rename_i x e h
    rw [h, tickReached_iff]
    simp
  · rename_i h
    simp [h]
  · rename_i h
    simp [h]

/-- The station's own events, each once. -/
def ownEvents : List Instr :=
  [.wakeEvent .detector, .wakeEvent .link, .settlingComplete, .quietTimerExpiry, .dormantEntryComplete,
    .refreshTimerExpiry, .debounceHoldEnd .a, .debounceHoldEnd .b] ++ (List.finRange 16).map .deadlineExpiry ++
    [.closeTimerExpiry]

theorem ownEvents_nodup : ownEvents.Nodup := by decide

theorem whenDue_sublist (b : Bool) (c : Instr) : (whenDue b c).Sublist [c] := by cases b <;> simp [whenDue]

theorem flatMap_whenDue_sublist {α : Type} (f : α → Bool) (g : α → Instr) (l : List α) :
    (l.flatMap fun i => whenDue (f i) (g i)).Sublist (l.map g) := by
  induction l with
  | nil => exact List.Sublist.refl _
  | cons x xs ih => exact (whenDue_sublist (f x) (g x)).append ih

/-- The due events stand in the order of `ownEvents`. -/
theorem dueEvents_sublist (s : State) : s.dueEvents.Sublist ownEvents := by
  unfold State.dueEvents
  split
  · exact List.nil_sublist _
  · have h := fun b c => whenDue_sublist b c
    exact ((((((((h _ _).append (h _ _)).append (h _ _)).append (h _ _)).append (h _ _)).append (h _ _)).append
      (h _ _)).append (h _ _) |>.append (flatMap_whenDue_sublist _ _ _)).append (h _ _)

/-- No own event stands twice among the due ones. -/
theorem dueEvents_nodup (s : State) : s.dueEvents.Nodup := (dueEvents_sublist s).nodup ownEvents_nodup

/-- An own event is due exactly when its rule says so. -/
theorem mem_dueEvents (s : State) (hs : s.strapFault = false) (c : Instr) : c ∈ s.dueEvents ↔
    (c = .wakeEvent .detector ∧ s.rc.detectorWake = true) ∨ (c = .wakeEvent .link ∧ s.rc.linkWake = true) ∨
    (c = .settlingComplete ∧ s.fe.settling = true ∧ s.fe.settleCount = 0) ∨
    (c = .quietTimerExpiry ∧ s.rc.rate = .quiet ∧ ∃ e, s.rc.quietTimer = some e ∧ s.reached e) ∨
    (c = .dormantEntryComplete ∧ s.rc.rate = .quiet ∧ ∃ e, s.rc.dormantEntry = some e ∧ s.reached e) ∨
    (c = .refreshTimerExpiry ∧ s.rc.rate = .dormant ∧ ∃ e, s.rc.refreshTimer = some e ∧ s.reached e) ∨
    (∃ (d : Detector) (e : Tick), c = .debounceHoldEnd d ∧ s.wheel.hold d = some e ∧
      1 ≤ (s.tick - e).toNat ∧ (s.tick - e).toNat ≤ 2147483647) ∨
    (∃ (i : Fin 16) (x : Collecting) (e : Tick), c = .deadlineExpiry i ∧ s.table.slots[i] = .opened x e ∧ s.reached e) ∨
    (c = .closeTimerExpiry ∧ s.train.state ≠ .noTrain ∧ ∃ e, s.train.closeTimer = some e ∧ s.reached e) := by
  have hA : holdDue s.tick s.wheel.holdA = true ↔ _ := holdDue_iff s .a
  have hB : holdDue s.tick s.wheel.holdB = true ↔ _ := holdDue_iff s .b
  unfold State.dueEvents
  simp only [hs, Bool.false_eq_true, if_false, List.mem_append, List.mem_flatMap, List.mem_finRange, true_and, mem_whenDue,
    Bool.and_eq_true, beq_iff_eq, timerDue_iff, hA, hB, slotDue_iff, trainHeld_iff, or_assoc]
  have hdet : ∀ P : Detector → Prop, (∃ d, P d) ↔ P .a ∨ P .b :=
    fun P => ⟨fun ⟨d, h⟩ => by cases d <;> simp [h], fun h => by rcases h with h | h <;> exact ⟨_, h⟩⟩
  simp only [hdet, exists_and_left, or_assoc]

theorem idleStep_due (s : State) (h : s.dueEvents ≠ []) : idleStep s = { s with pending := s.dueEvents } := by
  unfold idleStep
  cases hd : s.dueEvents with
  | nil => exact absurd hd h
  | cons c cs => rfl

theorem idleStep_quiet (s : State) (h : s.dueEvents = []) : idleStep s = advanceTick s := by
  unfold idleStep
  rw [h]

theorem step_idle (s : State) (h : s.pending = []) : step s = .next (idleStep s) := by
  unfold step
  rw [h]

/-- Settles O2: the list of due events, one by one. -/
theorem Settled.idleStep : Obligations.IdleStep := by
  refine ⟨fun s hp => ⟨fun h => ?_, fun h => ?_⟩, fun s => ⟨fun h => ?_, dueEvents_nodup s, mem_dueEvents s⟩⟩
  · rw [step_idle s hp, idleStep_due s h]
  · rw [step_idle s hp, idleStep_quiet s h]
    rfl
  · simp [State.dueEvents, h]

/-! ### Power-on reset -/

/-- The queue of `State.reset` holds its PRESENCE alone (R77, R173). -/
theorem reset_queue : ∃ f, State.reset.link.queue = [f] ∧ f.kind = .presence ∧ f.payload.length = 8 ∧ f.id = 0 :=
  ⟨_, rfl, rfl, rfl, rfl⟩

theorem reset_queueInv : QueueInv State.reset.link := by
  obtain ⟨f, hq, hk, hp, hid⟩ := reset_queue
  have hn : State.reset.link.nextId = 1 := rfl
  exact
    { bound := by simp [hq]
      kinds := by simp [hq, hk, kindValue]
      lengths := by simp [hq, hk, hp, payloadLength]
      distinct := by simp [hq]
      fresh := by simp [hq, hid, hn]
      attemptQueued := nofun
      attemptState := by decide
      cancelCarried := nofun
      countedQueued := nofun
      attemptCounted := nofun
      attempts := by decide
      recessive := by decide }

theorem reset_rateInv : RateInv State.reset :=
  rateInv_of_quiet rfl rfl nofun (fun _ => ⟨rfl, rfl⟩) rfl le_rfl rfl rfl

theorem reset_roster (p : Pos) : State.reset.roster[p] = emptyRosterEntry := by simp [State.reset]

theorem reset_slots (i : Fin 16) : State.reset.table.slots[i] = .free := by simp [State.reset]

theorem reset_rosterInv : RosterInv State.reset where
  counts p := by rw [reset_roster]; decide
  unknown p _ := reset_roster p
  absent p _ := reset_roster p

theorem reset_tableInv : TableInv State.reset where
  next := by decide
  counters := by decide
  snapshot := nofun
  window i a h := by rw [reset_slots] at h; cases h
  distinct i j a h := by rw [reset_slots] at h; cases h
  opened i c d h := by rw [reset_slots] at h; cases h
  decided i c a h := by rw [reset_slots] at h; cases h
  settled := by decide
  free _ := reset_slots

/-- Settles O15, one invariant after the other. -/
theorem resetInvariants : Obligations.ResetInvariants :=
  ⟨reset_queueInv, reset_rateInv, reset_zeroInv, reset_rosterInv, ⟨Nat.zero_le _, nofun⟩,
    ⟨Nat.zero_le _, List.nodup_nil⟩, reset_tableInv⟩

theorem strapFault_iff (s : State) : s.strapFault = true ↔ s.conf.straps.cnt.toNat < s.conf.straps.pos.toNat := by
  unfold State.strapFault Straps.count Straps.position
  simp

/-- A PRESENCE offered to an empty queue is its only frame (R77, R173). -/
theorem powerOn_inService (st : Straps) (s : State) (h : (powerOnBlocks st s).strapFault = false) :
    powerOn st s = { powerOnBlocks st s with link := (enqueue .presence 0
      [0, 0, 0, 0, 0, BitVec.ofNat 8 (st.cnt.toNat + 1), BitVec.ofNat 8 st.sec.toNat, 0] emptyLink) } := by
  have ho := offer_room .presence 0 (presencePayload .blank .none .ok .ok noFaults st.count st.sec.toNat 0)
    (powerOnBlocks st s) (by decide : 0 < 8)
  rw [powerOn, if_neg (by simp [h])]
  exact congrArg Prod.fst ho

theorem powerOn_strapFault (st : Straps) (s : State) (h : (powerOnBlocks st s).strapFault = true) :
    powerOn st s = strapFaulted (powerOnBlocks st s) := if_pos h

/-- Settles O29, on each side of POS = N. -/
theorem powerOnResetEffect : Obligations.PowerOnResetEffect := by
  intro pos cnt sec s
  refine ⟨powerOn ⟨pos, cnt, sec⟩ s, rfl, ?_⟩
  cases h : (powerOnBlocks ⟨pos, cnt, sec⟩ s).strapFault
  · have hlt : ¬ cnt.toNat < pos.toNat := fun g =>
      Bool.false_ne_true (h.symm.trans ((strapFault_iff (powerOnBlocks ⟨pos, cnt, sec⟩ s)).2 g))
    rw [powerOn_inService _ s h]
    exact ⟨rfl, rfl, rfl, rfl, rfl, rfl, reset_roster, reset_slots, rfl, rfl, rfl, rfl, rfl, rfl, rfl, rfl, rfl, rfl, rfl,
      rfl, rfl, rfl, rfl, rfl, rfl, rfl, fun _ => ⟨h, rfl, rfl, rfl, rfl, rfl⟩, fun g => absurd g hlt⟩
  · have hlt : cnt.toNat < pos.toNat := (strapFault_iff (powerOnBlocks ⟨pos, cnt, sec⟩ s)).1 h
    rw [powerOn_strapFault _ s h]
    exact ⟨rfl, rfl, rfl, rfl, rfl, rfl, reset_roster, reset_slots, rfl, rfl, rfl, rfl, rfl, rfl, rfl, rfl, rfl, rfl, rfl,
      rfl, rfl, rfl, rfl, rfl, rfl, rfl, fun g => absurd hlt (Nat.not_lt.2 g), fun _ => ⟨h, rfl, rfl, rfl, rfl⟩⟩

end Sys2Proof.Machine
end

section
/-! Offers to the transmit queue, written out, and sample pairs. -/

namespace Sys2Proof.Machine

/-! ### Offers -/

/-- A displaced frame is of a higher kind than the offered one (R74). -/
theorem victimFor_kind {k : Kind} {l : LinkControl} {v : QFrame} (h : victimFor k l = some v) :
    kindValue k < kindValue v.kind := by
  unfold victimFor at h
  split at h
  · cases h
  · dsimp only at h
    split at h
    · cases h
      assumption
    · cases h

theorem kindValue_le (k : Kind) : kindValue k ≤ 7 := by cases k <;> decide

/-- A PRESENCE displaces nothing: it is of the highest kind (R74). -/
theorem victimFor_presence (l : LinkControl) : victimFor .presence l = none := by
  cases h : victimFor .presence l with
  | none => rfl
  | some v => exact absurd (victimFor_kind h) (Nat.not_lt.2 (kindValue_le v.kind))

/-- The Link Controller after the offer of a PRESENCE. -/
def presenceLink (payload : List Byte) (l : LinkControl) : LinkControl :=
  if l.queue.length < 8 then enqueue .presence 0 payload l else l

theorem offer_presence (payload : List Byte) (s : State) :
    (offer .presence 0 payload s).1 = { s with link := presenceLink payload s.link } := by
  unfold presenceLink
  split
  · rw [offer_room _ _ _ _ ‹_›]
  · rw [offer_refused _ _ _ _ (Nat.le_of_not_lt ‹_›) (victimFor_presence _)]

/-- The payload of the PRESENCE the station offers (R173, R177). -/
def State.presence (s : State) : List Byte :=
  presencePayload s.configState s.conf.lastRefusal s.zero.left.zstate s.zero.right.zstate s.pass.faults
    s.conf.straps.count s.conf.straps.sec.toNat s.train.number

theorem offerPresence_eq (s : State) : offerPresence s = { s with link := presenceLink s.presence s.link } :=
  offer_presence _ s

theorem presenceLink_room (payload : List Byte) (l : LinkControl) (h : l.queue.length < 8) : presenceLink payload l =
    { l with queue := l.queue ++ [⟨l.nextId, .presence, 0, payload⟩], nextId := l.nextId + 1 } := if_pos h

theorem isEmpty_iff (fs : FaultSet) : fs.isEmpty = true ↔ fs = noFaults := beq_iff_eq

/-- A fault joins the set, and the first one offers a PRESENCE, in configuration state `c` (R17, R18). -/
theorem setFault_eq (f : StationFault) (s : State) {c : ConfigState} (hc : s.configState = c) : setFault f s =
    { s with
      pass := { s.pass with faults := s.pass.faults.insert f }
      link := if s.pass.faults = noFaults then
          presenceLink (presencePayload c s.conf.lastRefusal s.zero.left.zstate s.zero.right.zstate
            (noFaults.insert f) s.conf.straps.count s.conf.straps.sec.toNat s.train.number) s.link
        else s.link } := by
  subst hc
  by_cases h : s.pass.faults = noFaults
  · rw [setFault, if_pos ((isEmpty_iff _).2 h), offerPresence_eq, if_pos h, ← h]
    rfl
  · rw [setFault_joins f s (Bool.eq_false_iff.2 (mt (isEmpty_iff _).1 h)), if_neg h]

theorem insert_ne_noFaults (fs : FaultSet) (f : StationFault) : fs.insert f ≠ noFaults := by
  cases f <;> simp [FaultSet.insert, noFaults]

/-! ### The pair of a tick -/

theorem pairTick_iff (s : State) : s.pairTick = true ↔ s.producesPair := by
  unfold State.pairTick State.producesPair
  cases s.fe.pairRate <;> simp [Config.quietDivider, and_assoc]

theorem exec_samplePair (l r : Sample) (s : State) (hs : s.strapFault = false) (h : s.producesPair) :
    exec (.samplePair l r) s = .next (producePair l r s) := by
  rw [show exec (.samplePair l r) s = .next (samplePair l r s) from inService_next _ s hs, samplePair,
    if_pos ((pairTick_iff s).2 h)]

theorem exec_samplePair_none (l r : Sample) (s : State) (hs : s.strapFault = false) (h : ¬ s.producesPair) :
    exec (.samplePair l r) s = .next s := by
  rw [show exec (.samplePair l r) s = .next (samplePair l r s) from inService_next _ s hs, samplePair,
    if_neg (mt (pairTick_iff s).1 h)]

/-! ### A pair with a train held -/

theorem judgeIdle_held (p : Pair) (s : State) (h : s.train.state ≠ .noTrain) : judgeIdle p s = s :=
  if_neg (by simp [(trainHeld_iff s).2 h])

theorem zeroTake_held (p : Pair) (s : State) (h : s.train.state ≠ .noTrain) : zeroTake p s = s := by
  unfold zeroTake
  split
  · rfl
  · exact if_neg (by simp [(trainHeld_iff s).2 h])

/-- The pair joins the buffer of an open calibrated dwell within its reach (R39, R40). -/
def Stored (s : State) (p : Pair) : Prop :=
  ∃ d n w, s.wheel.dwell = some d ∧ s.pass.snapshot = some n ∧ n.weighing = some w ∧ d.aged = false ∧
    (p.stamp - d.entry).toNat ≤ 65534

theorem bufferTakes_iff (d : Dwell) (p : Pair) :
    bufferTakes d p = true ↔ d.aged = false ∧ (p.stamp - d.entry).toNat ≤ 65534 := by
  simp only [bufferTakes, ticksSince, Config.maxBuffer, Bool.and_eq_true, Bool.not_eq_true']
  exact and_congr_right fun _ => decide_eq_true_iff.trans Nat.lt_succ_iff

theorem calibratedDwell_iff (s : State) (d : Dwell) : s.calibratedDwell = some d ↔
    ∃ n w, s.wheel.dwell = some d ∧ s.pass.snapshot = some n ∧ n.weighing = some w := by
  unfold State.calibratedDwell
  cases s.wheel.dwell <;> cases s.pass.snapshot <;> simp [Option.isSome_iff_exists, and_comm]

theorem passTake_stored (p : Pair) (s : State) (h : Stored s p) : passTake p s =
    { s with pass := { s.pass with latestPair := some p, buffer := s.pass.buffer ++ [p] } } := by
  obtain ⟨d, n, w, hd, hn, hw, hb⟩ := h
  have hc : s.calibratedDwell = some d := (calibratedDwell_iff s d).2 ⟨n, w, hd, hn, hw⟩
  simp [passTake, hc, (bufferTakes_iff d p).2 hb]

theorem passTake_not_stored (p : Pair) (s : State) (h : ¬ Stored s p) : passTake p s =
    { s with pass := { s.pass with latestPair := some p } } := by
  unfold passTake
  cases hc : s.calibratedDwell with
  | none => rfl
  | some d =>
    obtain ⟨n, w, hd, hn, hw⟩ := (calibratedDwell_iff s d).1 hc
    have hb : bufferTakes d p = false := Bool.eq_false_iff.2 fun g => h ⟨d, n, w, hd, hn, hw, (bufferTakes_iff d p).1 g⟩
    simp [hb]

theorem passTake_noDwell (p : Pair) (s : State) (h : s.wheel.dwell = none) : passTake p s =
    { s with pass := { s.pass with latestPair := some p } } :=
  passTake_not_stored p s fun ⟨d, _, _, hd, _⟩ => by simp [h] at hd

/-- Settles O30: neither the fault of an idle pair nor the Zero Tracker has a part in it. -/
theorem samplePairInTrain : Obligations.SamplePairInTrain := by
  intro l r s hs
  refine ⟨exec_samplePair_none l r s hs, fun hp ht stored => ?_⟩
  intro p reach hreach hnot
  rw [exec_samplePair l r s hs hp, producePair]
  dsimp only
  rw [judgeIdle_held _ _ (by exact ht), zeroTake_held _ _ (by exact ht)]
  by_cases h : reach
  · rw [passTake_stored _ _ (by exact h), hreach h]
    rfl
  · rw [passTake_not_stored _ _ (by exact h), hnot h]
    rfl

/-! ### A pair in NO_TRAIN -/

theorem judgeIdle_settled (p : Pair) (s : State) (hp : p.settled = true) (hn : s.train.state = .noTrain) :
    judgeIdle p s = if p.clipped = true then setFault .idleOverrange s else s := by
  simp [judgeIdle, hp, (not_trainHeld_iff s).2 hn]

theorem judgeIdle_unsettled (p : Pair) (s : State) (hp : p.settled = false) : judgeIdle p s = s := if_neg (by simp [hp])

theorem zeroTake_unused (p : Pair) (s : State) (h : p.settled = false ∨ s.conf.cal = none) : zeroTake p s = s := by
  unfold zeroTake
  split
  · rfl
  · rename_i cal hc
    exact if_neg (by simp_all)

theorem zeroTake_tracks (p : Pair) (s : State) {cal : Calibrate} (hc : s.conf.cal = some cal) (hp : p.settled = true)
    (hn : s.train.state = .noTrain) (hm : s.zero.capturePending = false) : zeroTake p s = trackPair cal p s := by
  simp [zeroTake, hc, hp, hm, (not_trainHeld_iff s).2 hn]

theorem zeroTake_captures (p : Pair) (s : State) {cal : Calibrate} (hc : s.conf.cal = some cal) (hp : p.settled = true)
    (hn : s.train.state = .noTrain) (hm : s.zero.capturePending = true) : zeroTake p s = capturePair p s := by
  simp [zeroTake, hc, hp, hm, (not_trainHeld_iff s).2 hn]

theorem clippedSample_iff (x : Sample) : clippedSample x = true ↔ x.toInt = -8388608 ∨ x.toInt = 8388607 := by
  simp [clippedSample]

/-- A tracking step in the band (R13, R14). -/
theorem trackChannel_inBand (band k warn limit : Nat) (x : Sample) (c : ZeroChannel) (hx : clippedSample x = false)
    (hd : (256 * x.toInt - c.z256).natAbs ≤ 256 * band) : trackChannel band k warn limit x c =
      { c with z256 := c.z256 + Int.tdiv (256 * x.toInt - c.z256) (2 ^ k)
               zstate := judgeZero warn limit (c.z256 + Int.tdiv (256 * x.toInt - c.z256) (2 ^ k)) c.zcal256 } := by
  simp [trackChannel, hx, Nat.not_lt.2 hd, truncDiv]

theorem trackChannel_unused (band k warn limit : Nat) (x : Sample) (c : ZeroChannel)
    (h : clippedSample x = true ∨ 256 * band < (256 * x.toInt - c.z256).natAbs) :
    trackChannel band k warn limit x c = c := by
  unfold trackChannel
  split
  · rfl
  · exact if_pos (h.resolve_left ‹_›)

theorem judgeZero_limit_iff (warn limit : Nat) (z zcal : Int) :
    judgeZero warn limit z zcal = .limit ↔ 256 * limit < (z - zcal).natAbs := by
  unfold judgeZero
  dsimp only
  split
  · simp [*]
  · split <;> simp [*]

theorem judgeZero_warn_iff (warn limit : Nat) (z zcal : Int) : judgeZero warn limit z zcal = .warn ↔
    ¬ 256 * limit < (z - zcal).natAbs ∧ 256 * warn < (z - zcal).natAbs := by
  unfold judgeZero
  dsimp only
  split
  · simp [*]
  · split <;> simp [*]

/-- One channel on one sample: R13 with R3's clipped samples, and the drift judged afresh (R14). -/
theorem trackChannel_spec (band k warn limit : Nat) (x : Sample) (c : ZeroChannel) :
    let d := 256 * x.toInt - c.z256
    let t := trackChannel band k warn limit x c
    let drift := (t.z256 - t.zcal256).natAbs
    ((x.toInt = -8388608 ∨ x.toInt = 8388607 ∨ 256 * band < d.natAbs) → t = c) ∧
    (x.toInt ≠ -8388608 → x.toInt ≠ 8388607 → d.natAbs ≤ 256 * band →
      t.z256 = c.z256 + Int.tdiv d (2 ^ k) ∧ t.zcal256 = c.zcal256 ∧
      (t.zstate = .limit ↔ 256 * limit < drift) ∧ (t.zstate = .warn ↔ ¬ 256 * limit < drift ∧ 256 * warn < drift) ∧
      (t.z256 = c.z256 ∨ (c.z256 < t.z256 ∧ t.z256 ≤ 256 * x.toInt) ∨
        (256 * x.toInt ≤ t.z256 ∧ t.z256 < c.z256))) := by
  refine ⟨fun h => trackChannel_unused _ _ _ _ _ _ ?_, fun hlo hhi hd => ?_⟩
  · rcases h with h | h | h
    · exact .inl ((clippedSample_iff x).2 (.inl h))
    · exact .inl ((clippedSample_iff x).2 (.inr h))
    · exact .inr h
  · have hx : clippedSample x = false := Bool.eq_false_iff.2 fun h => by
      rcases (clippedSample_iff x).1 h with h | h <;> contradiction
    have htoward := (trackChannel_toward band k warn limit x c).2.imp_right And.right
    rw [trackChannel_inBand band k warn limit x c hx hd] at htoward ⊢
    exact ⟨rfl, rfl, judgeZero_limit_iff _ _ _ _, judgeZero_warn_iff _ _ _ _, htoward⟩

/-- Both channels tracked, and ZERO_LIMIT when one of them enters LIMIT (R13, R14). -/
theorem trackPair_eq (cal : Calibrate) (p : Pair) (s : State) (k : Nat) (zl zr : ZeroChannel) (limit : Bool)
    (hk : s.siteValue Config.defaultK Site.k = k) (hl : trackChannel cal.band k cal.warn cal.limit p.left s.zero.left = zl)
    (hr : trackChannel cal.band k cal.warn cal.limit p.right s.zero.right = zr)
    (hlimit : (enteredLimit s.zero.left zl || enteredLimit s.zero.right zr) = limit) :
    trackPair cal p s = if limit = true then setFault .zeroLimit { s with zero := { s.zero with left := zl, right := zr } }
      else { s with zero := { s.zero with left := zl, right := zr } } := by
  subst hk hl hr hlimit
  rfl

theorem enteredLimit_iff (before after : ZeroChannel) :
    enteredLimit before after = true ↔ before.zstate ≠ .limit ∧ after.zstate = .limit := by simp [enteredLimit]

theorem configState_cal (s : State) {cal : Calibrate} (hc : s.conf.cal = some cal) : s.configState =
    if s.conf.site = none then .calHeld else if s.zero.capturePending = true then .capturing else .ready := by
  unfold State.configState configStateOf
  rw [hc]
  cases s.conf.site <;> rfl

theorem configState_noCal (s : State) (hc : s.conf.cal = none) :
    s.configState = if s.conf.site = none then .blank else .listening := by
  unfold State.configState configStateOf
  rw [hc]
  cases s.conf.site <;> rfl

/-- The fault set after a pair that is clipped or brings a channel to LIMIT (R3, R14, R17). -/
def pairFaults (clip limit : Bool) (fs : FaultSet) : FaultSet :=
  let fs := if clip then fs.insert .idleOverrange else fs
  if limit then fs.insert .zeroLimit else fs

/-- The faults a pair sets, each in its own place of the set. -/
theorem pairFaults_fields (clip limit : Bool) (fs : FaultSet) :
    ((pairFaults clip limit fs).idleOverrange = true ↔ fs.idleOverrange = true ∨ clip = true) ∧
    ((pairFaults clip limit fs).zeroLimit = true ↔ fs.zeroLimit = true ∨ limit = true) ∧
    (pairFaults clip limit fs).positionClash = fs.positionClash ∧
    (pairFaults clip limit fs).linkFailure = fs.linkFailure := by
  cases clip <;> cases limit <;> simp [pairFaults, FaultSet.insert]

/-- The PRESENCE of the first fault a tracked pair sets: IDLE_OVERRANGE stands first, with the zero states from before
the pair (log entry 11). -/
def trackedPresence (s : State) (zl zr : ZeroChannel) (clip : Bool) : List Byte :=
  presencePayload (if s.conf.site = none then .calHeld else .ready) s.conf.lastRefusal
    (if clip then s.zero.left.zstate else zl.zstate) (if clip then s.zero.right.zstate else zr.zstate)
    (if clip then { noFaults with idleOverrange := true } else { noFaults with zeroLimit := true })
    s.conf.straps.count s.conf.straps.sec.toNat s.train.number

/-- The whole effect of a settled pair in NO_TRAIN that a held CALIBRATE tracks. -/
theorem producePair_tracks (l r : Sample) (s : State) (cal : Calibrate) (k : Nat) (zl zr : ZeroChannel)
    (clip limit : Bool) (hn : s.train.state = .noTrain) (hc : s.conf.cal = some cal)
    (hm : s.zero.capturePending = false) (hset : s.fe.settledMark = true) (hd : s.wheel.dwell = none)
    (hk : s.siteValue Config.defaultK Site.k = k) (hl : trackChannel cal.band k cal.warn cal.limit l s.zero.left = zl)
    (hr : trackChannel cal.band k cal.warn cal.limit r s.zero.right = zr)
    (hclip : (clippedSample l || clippedSample r) = clip)
    (hlimit : (enteredLimit s.zero.left zl || enteredLimit s.zero.right zr) = limit) :
    producePair l r s =
      { s with
        fe := { s.fe with pairDone := true }
        zero := { s.zero with left := zl, right := zr }
        pass := { s.pass with latestPair := some { stamp := s.tick, left := l, right := r, settled := true }
                              faults := pairFaults clip limit s.pass.faults }
        link := if s.pass.faults = noFaults ∧ (clip = true ∨ limit = true) then
            presenceLink (trackedPresence s zl zr clip) s.link
          else s.link } := by
  have hp : s.pairNow l r = { stamp := s.tick, left := l, right := r, settled := true } := by
    simp [State.pairNow, hset]
  have hcl : (s.pairNow l r).clipped = clip := hclip
  have hstate : ∀ u : State, u.conf = s.conf → u.zero.capturePending = false →
      u.configState = if s.conf.site = none then .calHeld else .ready := by
    intro u hu hz
    rw [configState_cal u (hu ▸ hc), hu, hz]
    simp
  rw [hp] at hcl
  rw [producePair, hp]
  dsimp only
  rw [judgeIdle_settled _ _ rfl (by exact hn), hcl]
  cases clip with
  | true =>
    rw [if_pos rfl, setFault_eq _ _ (hstate _ (by exact rfl) (by exact hm)),
      zeroTake_tracks _ _ (by exact hc) rfl (by exact hn) (by exact hm),
      trackPair_eq cal _ _ k zl zr limit (by exact hk) (by exact hl) (by exact hr) (by exact hlimit)]
    cases limit with
    | true =>
      rw [if_pos rfl, setFault_eq _ _ rfl, passTake_noDwell _ _ (by exact hd), if_neg (insert_ne_noFaults _ _)]
      simp [pairFaults, trackedPresence, FaultSet.insert]
    | false =>
      rw [if_neg Bool.false_ne_true, passTake_noDwell _ _ (by exact hd)]
      simp [pairFaults, trackedPresence, FaultSet.insert]
  | false =>
    rw [if_neg Bool.false_ne_true, zeroTake_tracks _ _ (by exact hc) rfl (by exact hn) (by exact hm),
      trackPair_eq cal _ _ k zl zr limit (by exact hk) (by exact hl) (by exact hr) (by exact hlimit)]
    cases limit with
    | true =>
      rw [if_pos rfl, setFault_eq _ _ (hstate _ (by exact rfl) (by exact hm)), passTake_noDwell _ _ (by exact hd)]
      simp [pairFaults, trackedPresence, FaultSet.insert]
    | false =>
      rw [if_neg Bool.false_ne_true, passTake_noDwell _ _ (by exact hd)]
      simp [pairFaults]

theorem siteValue_getD {α : Type} (s : State) (d : α) (f : Site → α) : s.siteValue d f = (s.conf.site.map f).getD d := by
  unfold State.siteValue
  cases s.conf.site <;> rfl

/-- A settled pair in NO_TRAIN that no zero capture counts, with a CALIBRATE held. -/
theorem samplePair_tracks (l r : Sample) (s : State) (cal : Calibrate) (hs : s.strapFault = false)
    (hp : s.producesPair) (hn : s.train.state = .noTrain) (hc : s.conf.cal = some cal)
    (hm : s.zero.capturePending = false) (hset : s.fe.settledMark = true) (hd : s.wheel.dwell = none) :
    let k := (s.conf.site.map Site.k).getD 8
    let zl := trackChannel cal.band k cal.warn cal.limit l s.zero.left
    let zr := trackChannel cal.band k cal.warn cal.limit r s.zero.right
    let clip := clippedSample l || clippedSample r
    let limit := enteredLimit s.zero.left zl || enteredLimit s.zero.right zr
    exec (.samplePair l r) s = .next { s with
      fe := { s.fe with pairDone := true }
      zero := { s.zero with left := zl, right := zr }
      pass := { s.pass with latestPair := some { stamp := s.tick, left := l, right := r, settled := true }
                            faults := pairFaults clip limit s.pass.faults }
      link := if s.pass.faults = noFaults ∧ (clip = true ∨ limit = true) then
          presenceLink (trackedPresence s zl zr clip) s.link
        else s.link } :=
  (exec_samplePair l r s hs hp).trans
    (congrArg _ (producePair_tracks l r s cal _ _ _ _ _ hn hc hm hset hd (siteValue_getD s _ _) rfl rfl rfl rfl))

/-- A pair in NO_TRAIN that the Zero Tracker does not take: unsettled, or without a CALIBRATE. -/
theorem producePair_untracked (l r : Sample) (s : State) (hd : s.wheel.dwell = none)
    (h : s.fe.settledMark = false ∨ s.conf.cal = none) : producePair l r s =
      (let u := judgeIdle (s.pairNow l r) { s with fe := { s.fe with pairDone := true } }
       { u with pass := { u.pass with latestPair := some (s.pairNow l r) } }) := by
  have hj := judgeIdle_calm (s.pairNow l r) { s with fe := { s.fe with pairDone := true } }
  have hw : (judgeIdle (s.pairNow l r) { s with fe := { s.fe with pairDone := true } }).wheel = s.wheel := by
    unfold judgeIdle
    split
    · rw [setFault_eq _ _ rfl]
    · rfl
  rw [producePair]
  dsimp only
  rw [zeroTake_unused _ _ (h.imp_right fun g => by rw [hj.conf]; exact g), passTake_noDwell _ _ (by rw [hw]; exact hd)]

/-- Settles O31: one channel, the tracked pair, and the pair that is not tracked. -/
theorem samplePairTracks : Obligations.SamplePairTracks := by
  refine ⟨trackChannel_spec, ?_, ?_⟩
  · intro l r s cal hs hp hn hc hm hset hd k zl zr clip limit p
    have hclip : clip ↔ (clippedSample l || clippedSample r) = true := Bool.or_eq_true_iff.symm
    have hlimit : limit ↔ (enteredLimit s.zero.left zl || enteredLimit s.zero.right zr) = true := by
      rw [Bool.or_eq_true, enteredLimit_iff, enteredLimit_iff]
    obtain ⟨hidle, hzero, hclash, hfail⟩ := pairFaults_fields (clippedSample l || clippedSample r)
      (enteredLimit s.zero.left zl || enteredLimit s.zero.right zr) s.pass.faults
    refine ⟨_, samplePair_tracks l r s cal hs hp hn hc hm hset hd, rfl, rfl, rfl, rfl, ?_, ?_, hclash, hfail, ?_, ?_, ?_,
      rfl, rfl, rfl, rfl, rfl, rfl, rfl, rfl, rfl, rfl, rfl, rfl⟩
    · rw [hclip]
      exact hidle
    · rw [hlimit]
      exact hzero
    · intro hnc hnl
      rw [hclip, Bool.not_eq_true] at hnc
      rw [hlimit, Bool.not_eq_true] at hnl
      simp [zl, zr, k] at hnc hnl
      simp [hnc, hnl, pairFaults, zl, zr, k, p]
    · intro hf
      exact if_neg fun g => hf g.1
    · intro hf hcl
      rw [hclip, hlimit] at hcl
      refine ⟨(if_pos ⟨hf, hcl⟩).trans (congrArg State.link (offer_presence _ s)).symm, fun hq => ?_⟩
      exact (if_pos ⟨hf, hcl⟩).trans (presenceLink_room _ _ hq)
  · intro l r s hs hp hn hd hu p u marked clip
    have hclip : clip ↔ (s.pairNow l r).clipped = true := Bool.or_eq_true_iff.symm
    rw [exec_samplePair l r s hs hp, producePair_untracked l r s hd hu]
    refine ⟨fun h => ?_, fun hset hc hf => ?_, fun hset hc hf => ?_⟩
    · rcases h with h | h
      · rw [judgeIdle_unsettled _ _ (by exact h)]
        rfl
      · cases hset : s.fe.settledMark
        · rw [judgeIdle_unsettled _ _ (by exact hset)]
          rfl
        · rw [judgeIdle_settled _ _ (by exact hset) (by exact hn), if_neg (mt hclip.2 h)]
          rfl
    · rw [judgeIdle_settled _ _ (by exact hset) (by exact hn), if_pos (hclip.1 hc), setFault_eq _ _ rfl,
        if_neg (by exact hf)]
      rfl
    · have hcal : s.conf.cal = none := hu.resolve_left (by simp [hset])
      rw [judgeIdle_settled _ _ (by exact hset) (by exact hn), if_pos (hclip.1 hc),
        setFault_eq _ _ (configState_noCal _ (by exact hcal)), if_pos (by exact hf), offer_presence]
      rfl

/-! ### A pair of a zero capture -/

/-- A pair in NO_TRAIN that the capture in flight takes. -/
theorem producePair_captures (l r : Sample) (s : State) {cal : Calibrate} (hn : s.train.state = .noTrain)
    (hc : s.conf.cal = some cal) (hm : s.zero.capturePending = true) (hset : s.fe.settledMark = true) :
    producePair l r s = passTake (s.pairNow l r) (capturePair (s.pairNow l r)
      (if (s.pairNow l r).clipped = true then setFault .idleOverrange { s with fe := { s.fe with pairDone := true } }
       else { s with fe := { s.fe with pairDone := true } })) := by
  have hj := judgeIdle_calm (s.pairNow l r) { s with fe := { s.fe with pairDone := true } }
  rw [producePair]
  dsimp only
  rw [zeroTake_captures _ _ (hj.conf ▸ hc) hset (hj.state.trans hn) (by rw [hj.zero]; exact hm),
    judgeIdle_settled _ _ (by exact hset) (by exact hn)]

theorem capturePair_clipped (p : Pair) (s : State) (hp : p.clipped = true) : capturePair p s = discardCapture s :=
  if_pos hp

theorem capturePair_counts (p : Pair) (s : State) (hp : p.clipped = false) (hc : s.zero.count < 255) :
    capturePair p s = { s with zero := countPair p s.zero } := by
  have : (countPair p s.zero).count < Config.capturePairs := Nat.succ_lt_succ hc
  simp [capturePair, hp, this]

/-- The 256th pair ends the capture; with a SITE held the station is READY and says so (R15, R172). -/
theorem capturePair_completes (p : Pair) (s : State) (hp : p.clipped = false) (hc : s.zero.count = 255) :
    capturePair p s =
      if s.conf.site.isSome = true then offerPresence { s with zero := captured (countPair p s.zero) }
      else { s with zero := captured (countPair p s.zero) } := by
  have : ¬ (countPair p s.zero).count < Config.capturePairs := by simp [countPair, hc, Config.capturePairs]
  simp [capturePair, hp, this]

/-- Settles O32: a pair that counts, one that is clipped, and the 256th. -/
theorem zeroCapture : Obligations.ZeroCapture := by
  intro l r s cal hs hp hn hc hm hset hd p z u ended ready
  have hnow : s.pairNow l r = p := by simp [State.pairNow, hset, p]
  have hx := exec_samplePair l r s hs hp
  rw [producePair_captures l r s hn hc hm hset, hnow] at hx
  refine ⟨fun hl hr hcount => ?_, fun hclip => ?_, fun hl hr hcount => ?_⟩
  · have hcl : p.clipped = false := by simp [Pair.clipped, p, hl, hr]
    rw [hx, if_neg (by simp [hcl]), capturePair_counts _ _ hcl (by exact hcount), passTake_noDwell _ _ (by exact hd)]
    rfl
  · have hcl : p.clipped = true := Bool.or_eq_true_iff.2 hclip
    intro marked
    refine ⟨fun hf => ?_, fun hf => ?_⟩
    · rw [hx, if_pos hcl, capturePair_clipped _ _ hcl, setFault_eq _ _ rfl, if_neg (by exact hf),
        passTake_noDwell _ _ (by exact hd)]
      rfl
    · have hstate : State.configState { s with fe := { s.fe with pairDone := true } } =
          if s.conf.site = none then .calHeld else .capturing := by
        rw [configState_cal _ (by exact hc)]
        simp [hm]
      rw [hx, if_pos hcl, capturePair_clipped _ _ hcl, setFault_eq _ _ hstate, if_pos (by exact hf),
        passTake_noDwell _ _ (by exact hd), offer_presence]
      rfl
  · have hcl : p.clipped = false := by simp [Pair.clipped, p, hl, hr]
    have hlast : s.completesCapture l r = true := by
      have hcount' : s.zero.count = 255 := hcount
      simp [State.completesCapture, hnow, State.captureInFlight, hm, hc, p, (not_trainHeld_iff s).2 hn, hcl, hcount',
        Config.capturePairs]
    have hz : exec (.zeroCaptureComplete l r) s = exec (.samplePair l r) s := by
      rw [show exec (.zeroCaptureComplete l r) s = .next (zeroCaptureComplete l r s) from inService_next _ s hs,
        zeroCaptureComplete, if_pos (by simp [(pairTick_iff s).2 hp, hlast]), exec_samplePair l r s hs hp]
    rw [if_neg (by simp [hcl]), capturePair_completes _ _ hcl (by exact hcount)] at hx
    have hoffer : s.conf.site ≠ none →
        exec (.zeroCaptureComplete l r) s = .next (offer .presence 0 ready.payload { u with zero := ended }).1 := by
      intro hsite
      rw [hz, hx, if_pos (by simpa [Option.isSome_iff_ne_none] using hsite), offerPresence_eq,
        passTake_noDwell _ _ (by exact hd), offer_presence]
      have hstate : State.configState { s with
          fe := { s.fe with pairDone := true }, zero := captured (countPair p s.zero) } = .ready := by
        rw [configState_cal _ (by exact hc), if_neg (by exact hsite)]
        rfl
      rw [State.presence, hstate]
      rfl
    refine ⟨hz, fun hsite => ?_, hoffer, fun hsite hq => ?_⟩
    · rw [hz, hx, if_neg (by simp [hsite]), passTake_noDwell _ _ (by exact hd)]
      rfl
    · rw [hoffer hsite, offer_presence, presenceLink_room _ _ (by exact hq)]

end Sys2Proof.Machine
end

section
/-! Sender errors, the receive checks, and the settings frames. -/

namespace Sys2Proof.Machine

/-! ### Removing a frame -/

/-- Removing a frame that shares its identity with no other (R74). -/
theorem filter_other (pre post : List QFrame) (f : QFrame) (h : ∀ g ∈ pre ++ post, g.id ≠ f.id) :
    (pre ++ f :: post).filter (fun g => g.id != f.id) = pre ++ post := by
  simp only [List.mem_append] at h
  rw [List.filter_append, List.filter_cons_of_neg (by simp), List.filter_eq_self.2, List.filter_eq_self.2]
  · exact fun g hg => bne_iff_ne.2 (h g (.inr hg))
  · exact fun g hg => bne_iff_ne.2 (h g (.inl hg))

theorem removeFrame_eq (l : LinkControl) (pre post : List QFrame) (f : QFrame) (hq : l.queue = pre ++ f :: post)
    (h : ∀ g ∈ pre ++ post, g.id ≠ f.id) : removeFrame f.id l =
      { l with queue := pre ++ post, counted := if l.counted = some f.id then none else l.counted
               attempts := if l.counted = some f.id then 0 else l.attempts } := by
  rw [removeFrame, hq, filter_other pre post f h]

/-- The frame in attempt is the queued one of its identity. -/
theorem inAttempt_eq (l : LinkControl) (pre post : List QFrame) (f : QFrame) (hq : l.queue = pre ++ f :: post)
    (h : ∀ g ∈ pre ++ post, g.id ≠ f.id) (ha : l.attempt = some f.id) : l.inAttempt = some f := by
  have hpre : ∀ g ∈ pre, (g.id == f.id) = false := fun g hg => beq_eq_false_iff_ne.2 (h g (List.mem_append_left _ hg))
  unfold LinkControl.inAttempt
  rw [ha]
  dsimp only
  rw [hq, List.find?_append, List.find?_eq_none.2 (by simpa using hpre)]
  simp

/-- What a notice writes: the two frame references of a TRAIN frame, or the entries of the Publication Table (R150,
R151, R155, R166). -/
theorem notify_eq (f : QFrame) (n : Notice) (s : State) : notify f n s =
    { s with
      train := { s.train with
        openFrame := if f.kind = .train ∧ s.train.openFrame = some f.id then none else s.train.openFrame
        closeFrame := if f.kind = .train ∧ s.train.closeFrame = some f.id then none else s.train.closeFrame }
      pub := if f.kind = .vehicle ∨ f.kind = .dissent then s.pub.map (noticeEntry f.id n) else s.pub } := by
  unfold notify
  cases f.kind <;> simp

/-! ### Sender errors -/

/-- Below the eighth the attempt is counted (R66, R67). -/
theorem failAttempt_counts (f : QFrame) (s : State) (h : s.link.attempts < 7) :
    failAttempt f s = { s with link := { s.link with attempts := s.link.attempts + 1 } } :=
  if_pos (Nat.succ_lt_succ h)

theorem failAttempt_discards (f : QFrame) (s : State) (h : 7 ≤ s.link.attempts) : failAttempt f s = discardFrame f s :=
  if_neg (Nat.not_lt.2 (Nat.succ_le_succ h))

/-- A discarded frame has left the queue, its owner is told, LINK_FAILURE is set (R17, R67, R76). -/
theorem discardFrame_eq (s : State) (pre post : List QFrame) (f : QFrame) (hq : s.link.queue = pre ++ f :: post)
    (h : ∀ g ∈ pre ++ post, g.id ≠ f.id) : discardFrame f s = setFault .linkFailure (notify f .dropped
      { s with link := { s.link with queue := pre ++ post, counted := none, attempts := 0 } }) := by
  rw [discardFrame, removeFrame_eq _ pre post f hq h]

theorem senderError_excluded (run : Nat) (s : State) (hc : s.link.state ≠ .contending) (hn : s.link.state ≠ .sending) :
    senderError run s = s := if_neg (by simp [hc, hn])

/-- The link after the end of an attempt by a sender error (R66). -/
def errorLink (run : Nat) (l : LinkControl) : LinkControl :=
  { l with state := .idle, recessive := min run 11, attempt := none, cancelled := false }

theorem endAttempt_error (run : Nat) (l : LinkControl) : endAttempt .idle (countRecessive 0 run) l = errorLink run l := by
  simp [endAttempt, errorLink, countRecessive, Config.idleBits]

theorem senderError_fails (run : Nat) (s : State) (f : QFrame)
    (hs : s.link.state = .contending ∨ s.link.state = .sending) (hc : s.link.cancelled = false)
    (ha : s.link.inAttempt = some f) :
    senderError run s = failAttempt f { s with link := errorLink run s.link } := by
  simp [senderError, hs, hc, ha, endAttempt_error]

theorem senderError_cancelled (run : Nat) (s : State) (id : Nat)
    (hs : s.link.state = .contending ∨ s.link.state = .sending) (hc : s.link.cancelled = true)
    (ha : s.link.attempt = some id) :
    senderError run s = { s with link := removeFrame id (errorLink run s.link) } := by
  simp [senderError, hs, hc, ha, endAttempt_error, dropCancelled]

/-- Settles O46: not sending, then the counted, the cancelled and the eighth attempt. -/
theorem senderErrors : Obligations.SenderErrors := by
  refine ⟨fun s run hs hc hn => ?_, ?_⟩
  · rw [show exec (.senderError run) s = .next (senderError run s) from inService_next _ s hs,
      senderError_excluded run s hc hn]
  intro s run pre post f hs hq hid ha l sends
  have hx : exec (.senderError run) s = .next (senderError run s) := inService_next _ s hs
  have hf : s.link.inAttempt = some f := inAttempt_eq _ pre post f hq hid ha
  have hrest : (pre ++ post).length < s.link.queue.length := by simp [hq]
  refine ⟨fun hsend hc hn => ?_, fun hsend hc => ?_, fun hsend hc hn hlen => ?_⟩
  · rw [hx, senderError_fails run s f hsend hc hf, failAttempt_counts _ _ (by exact hn)]
    rfl
  · rw [hx, senderError_cancelled run s f.id hsend hc ha, removeFrame_eq _ pre post f (by exact hq) hid]
    rfl
  · rw [senderError_fails run s f hsend hc hf, failAttempt_discards _ _ (by exact hn),
      discardFrame_eq _ pre post f (by exact hq) hid, notify_eq, setFault_eq _ _ rfl] at hx
    refine ⟨_, hx, rfl, rfl, rfl, fun h => ?_, fun h => ?_, rfl, rfl, rfl, rfl, rfl, rfl, rfl, rfl, rfl, rfl⟩
    · exact if_neg h
    · exact (if_pos h).trans (presenceLink_room _ _ (by exact Nat.lt_of_lt_of_le hrest hlen))

/-! ### The receive checks -/

/-- A row that is a received frame delivers it in its own way. -/
theorem exec_frameRow {i : Instr} {k : Kind} {f : RxFrame} (h : frameRow i = some (k, f)) :
    ∃ d, ∀ s, exec i s = inService (receiveFrame k f d) s := by
  cases i <;> cases h
  all_goals exact ⟨_, fun _ => rfl⟩

theorem payloadLength_le (k : Kind) : payloadLength k ≤ 24 := by cases k <;> decide

theorem wf_of_length {k : Kind} {f : RxFrame} (h : f.payload.length = payloadLength k) : f.wf = true :=
  decide_eq_true (h ▸ payloadLength_le k)

theorem stationKind_iff (k : Kind) : stationKind k = true ↔ 3 ≤ kindValue k := decide_eq_true_iff

theorem passesChecks_iff (k : Kind) (f : RxFrame) (s : State) : passesChecks k f s = true ↔
    frameCheck k f.position f.sequence f.payload = f.check ∧ f.payload.length = payloadLength k ∧
      (3 ≤ kindValue k → f.position.val < s.conf.straps.count) := by
  unfold passesChecks
  rw [Bool.and_eq_true, Bool.and_eq_true, beq_iff_eq, beq_iff_eq, Bool.or_eq_true, Bool.not_eq_true', decide_eq_true_iff,
    and_assoc, ← Bool.not_eq_true, stationKind_iff, imp_iff_not_or]

/-- A frame that fails one of the first three receive checks (R70). -/
theorem receiveFrame_failed (k : Kind) (f : RxFrame) (d : State → State) (s : State) (hl : s.listening)
    (h : passesChecks k f s.received = false) : receiveFrame k f d s = s.received := by
  rw [receiveFrame_listening k f d s hl, checkFrame, h]
  simp

/-- A frame that passes all four receive checks is delivered (R70, R72). -/
theorem receiveFrame_accepted (k : Kind) (f : RxFrame) (d : State → State) (s : State) (hl : s.listening)
    (h : s.accepts k f) : receiveFrame k f d s = d s.delivered := by
  obtain ⟨hlen, hcheck, hpos⟩ := h
  have hp : passesChecks k f s.received = true := (passesChecks_iff _ _ _).2 ⟨hcheck, hlen, fun g => (hpos g).1⟩
  have ho : ¬ ((stationKind k && decide (f.position = s.received.own)) = true) := by
    rw [Bool.and_eq_true, decide_eq_true_iff, stationKind_iff]
    exact fun g => (hpos g.1).2 g.2
  rw [receiveFrame_listening k f d s hl, if_pos (wf_of_length hlen), checkFrame, if_pos hp, if_neg ho]
  rfl

/-- A station frame at the own position is a clash (R71). -/
theorem receiveFrame_clash (k : Kind) (f : RxFrame) (d : State → State) (s : State) (hl : s.listening)
    (hlen : f.payload.length = payloadLength k) (hcheck : frameCheck k f.position f.sequence f.payload = f.check)
    (hk : 3 ≤ kindValue k) (hpos : f.position = s.own) (hs : s.strapFault = false) :
    receiveFrame k f d s = setFault .positionClash s.received := by
  have hn : f.position.val < s.conf.straps.count := by
    rw [hpos]
    exact Nat.lt_of_not_le (of_decide_eq_false hs)
  have hp : passesChecks k f s.received = true := (passesChecks_iff _ _ _).2 ⟨hcheck, hlen, fun _ => hn⟩
  have ho : (stationKind k && decide (f.position = s.received.own)) = true := by
    rw [Bool.and_eq_true, decide_eq_true_iff, stationKind_iff]
    exact ⟨hk, hpos⟩
  rw [receiveFrame_listening k f d s hl, if_pos (wf_of_length hlen), checkFrame, if_pos hp, if_pos ho]

/-- A PRESENCE enters the queue and touches neither link state nor recessive count. -/
theorem presenceLink_state (p : List Byte) (l : LinkControl) :
    (presenceLink p l).state = l.state ∧ (presenceLink p l).recessive = l.recessive := by
  unfold presenceLink
  split <;> exact ⟨rfl, rfl⟩

theorem setFault_linkState (f : StationFault) (s : State) :
    (setFault f s).link.state = s.link.state ∧ (setFault f s).link.recessive = s.link.recessive := by
  rw [setFault_eq f s rfl]
  dsimp only
  split
  · exact presenceLink_state _ _
  · exact ⟨rfl, rfl⟩

/-- A sender error leaves the link in IDLE with the run of the operand counted (R66). -/
theorem senderError_link (run : Nat) (s : State) (hs : s.link.state = .contending ∨ s.link.state = .sending) :
    (senderError run s).link.state = .idle ∧ (senderError run s).link.recessive = min run 11 := by
  unfold senderError
  rw [if_pos hs, endAttempt_error]
  dsimp only
  split
  · unfold dropCancelled
    split
    · exact ⟨rfl, rfl⟩
    · split <;> exact ⟨rfl, rfl⟩
  · split
    · exact ⟨rfl, rfl⟩
    · unfold failAttempt
      split
      · exact ⟨rfl, rfl⟩
      · obtain ⟨h, g⟩ := setFault_linkState .linkFailure (notify ‹QFrame› .dropped { s with link :=
          { removeFrame (‹QFrame›).id (errorLink run s.link) with counted := none, attempts := 0 } })
        rw [notify_link] at h g
        exact ⟨h, g⟩

/-- Right after a power-on reset the link is idle with no recessive bit time counted (R64, R77). -/
theorem powerOn_link (st : Straps) (s : State) : (powerOn st s).link.state = .idle ∧ (powerOn st s).link.recessive = 0 := by
  unfold powerOn
  dsimp only
  split
  · exact ⟨rfl, rfl⟩
  · rw [offerPresence_eq]
    exact presenceLink_state _ _

/-- Settles O49: frames not heard, frames that fail a check, the own position. -/
theorem receiveChecks : Obligations.ReceiveChecks := by
  intro i k f s hs hrow
  obtain ⟨d, hd⟩ := exec_frameRow hrow
  have hx : exec i s = .next (receiveFrame k f d s) := (hd s).trans (inService_next _ s hs)
  refine ⟨fun h => ?_, fun h g => ?_, fun hl h => ?_, fun hl hlen hcheck hk hpos => ?_, fun run t h hrun ht => ?_,
    fun pos cnt sec t ht => ?_⟩
  · rw [hx, receiveFrame_driving k f d s h]
  · rw [hx, receiveFrame_early k f d s h g]
  · have hp : passesChecks k f s.received = false := Bool.eq_false_iff.2 fun hp => by
      obtain ⟨hcheck, hlen, hpos⟩ := (passesChecks_iff k f s.received).1 hp
      rcases h with h | h | ⟨hk, h⟩
      · exact h hlen
      · exact h hcheck
      · exact Nat.not_lt.2 h (hpos hk)
    rw [hx, receiveFrame_failed k f d s hl hp]
  · intro u p
    rw [hx, receiveFrame_clash k f d s hl hlen hcheck hk hpos hs, setFault_eq _ _ rfl]
    refine ⟨fun hf => ?_, fun hf => ⟨?_, fun hq => ?_⟩⟩
    · rw [if_neg (by exact hf)]
      rfl
    · rw [if_pos (by exact hf), offer_presence]
      rfl
    · rw [if_pos (by exact hf), presenceLink_room _ _ (by exact hq)]
      rfl
  · rw [show exec (.senderError run) s = .next (senderError run s) from inService_next _ s hs] at ht
    cases ht
    obtain ⟨hidle, hrec⟩ := senderError_link run s h
    have hst : (senderError run s).strapFault = false := by
      rw [State.strapFault, (senderError_calm run s).conf]
      exact hs
    rw [hd, inService_next _ _ hst, receiveFrame_early k f d _ hidle (by omega)]
  · cases ht
    obtain ⟨hidle, hrec⟩ := powerOn_link ⟨pos, cnt, sec⟩ s
    rw [hd, inService, receiveFrame_early k f d _ hidle (by omega), ← hrec]
    exact congrArg _ (ite_self _)

end Sys2Proof.Machine
end

section
/-! The frames of the commissioning tool: RESTART, CALIBRATE and SITE. -/

namespace Sys2Proof.Machine

/-! ### RESTART -/

theorem restartFrame_accepted (s : State) (f : RxFrame) (hs : s.strapFault = false) (hl : s.listening)
    (ha : s.accepts .restart f) : exec (.restartFrame f) s = .next (takeRestartFrame f s.delivered) :=
  (inService_next _ s hs).trans (congrArg _ (receiveFrame_accepted .restart f _ s hl ha))

/-- A RESTART empties the queue, so that its PRESENCE enters it (R77, R173). -/
theorem takeRestart_presence (keep : Bool) (s : State) :
    let u := { s with
      conf := restartConf keep s.conf, zero := restartZero keep s.zero, pass := restartPass s.pass
      wheel := restartWheel s.wheel, train := restartTrain s.train, roster := State.reset.roster
      table := State.reset.table, asm := State.reset.asm, pub := [], fe := awakeFrontEnd s.rc.rate s.fe
      rc := { rate := .quiet, refreshTimer := none, dormantEntry := none, detectorWake := false, linkWake := false
              quietTimer := quietTimerOf s.tick (restartConf keep s.conf).site } }
    takeRestart keep s = { u with link := { flushQueue s.link with
      queue := [⟨s.link.nextId, .presence, 0, u.presence⟩], nextId := s.link.nextId + 1 } } := by
  rw [takeRestart_eq, offerPresence_eq, presenceLink_room _ _ (by exact Nat.zero_lt_succ 7)]
  rfl

theorem restartConf_eq (p : List Byte) (c : Configuration) : restartConf (restartKeeps p) c =
    { c with cal := if get1 p 1 ≠ 0 then c.cal else none, site := if get1 p 1 ≠ 0 then c.site else none
             lastRefusal := .none } := by
  by_cases h : get1 p 1 = 0 <;> simp [restartConf, restartKeeps, h]

theorem restartZero_eq (p : List Byte) (z : ZeroTracker) : restartZero (restartKeeps p) z =
    { z with left := { z.left with zstate := if get1 p 1 ≠ 0 then z.left.zstate else .ok }
             right := { z.right with zstate := if get1 p 1 ≠ 0 then z.right.zstate else .ok }
             capturePending := if get1 p 1 ≠ 0 then z.capturePending else false
             count := 0, sumL := 0, sumR := 0 } := by
  by_cases h : get1 p 1 = 0 <;> simp [restartZero, restartKeeps, h]

/-- Settles O50: not addressed, then every field of a restart. -/
theorem restartTaken : Obligations.RestartTaken := by
  intro s f hs hl ha
  have hx := restartFrame_accepted s f hs hl ha
  refine ⟨fun hpos hall => ?_, fun haddr => ?_⟩
  · rw [hx, takeRestartFrame, if_neg]
    simp only [Bool.or_eq_true, decide_eq_true_iff, restartAll, hall, not_or]
    exact ⟨hpos, by simp⟩
  · have htake : (decide (f.position = s.delivered.own) || restartAll f.payload) = true := by
      rw [Bool.or_eq_true, decide_eq_true_iff]
      exact haddr.imp_right fun h => bne_iff_ne.2 h
    rw [takeRestartFrame, if_pos htake, takeRestart_presence] at hx
    refine ⟨_, hx, ?_⟩
    exact ⟨restartConf_eq _ _, rfl, rfl, restartZero_eq _ _, rfl, rfl, rfl, reset_roster, reset_slots, rfl, rfl, rfl, rfl,
      rfl, rfl, rfl, rfl, rfl⟩

/-! ### CALIBRATE -/

theorem calibrateFrame_accepted (s : State) (f : RxFrame) (hs : s.strapFault = false) (hl : s.listening)
    (ha : s.accepts .calibrate f) : exec (.calibrateFrame f) s = .next (takeCalibrate f s.delivered) :=
  (inService_next _ s hs).trans (congrArg _ (receiveFrame_accepted .calibrate f _ s hl ha))

theorem byte_lt (p : List Byte) (i : Nat) : get1 p i < 256 := (p.getD i 0).isLt

/-- A three-byte field in two's complement (R176). -/
theorem getSigned3_mod (p : List Byte) (i : Nat) : getSigned3 p i % 16777216 = get3 p i := by
  have h0 := byte_lt p i
  have h1 := byte_lt p (i + 1)
  have h2 := byte_lt p (i + 2)
  have hn : (BitVec.ofNat 24 (get3 p i)).toNat = get3 p i := by
    rw [BitVec.toNat_ofNat]
    exact Nat.mod_eq_of_lt (by unfold get3; omega)
  have := BitVec.toInt_eq_toNat_cond (BitVec.ofNat 24 (get3 p i))
  unfold getSigned3
  omega

/-- A CALIBRATE payload fails a check of R169. -/
def BadCalibrate (p : List Byte) : Prop :=
  get2 p 0 = 0 ∨ get2 p 3 = 0 ∨ 31 < get1 p 2 ∨ 31 < get1 p 5 ∨ 1 < get1 p 6 ∨ get2 p 16 < get2 p 14

/-- What a CALIBRATE payload says (R176). -/
def calibrateOf (p : List Byte) : Calibrate :=
  { spanL := ⟨get2 p 0, get1 p 2⟩, spanR := ⟨get2 p 3, get1 p 5⟩
    rounding := if get1 p 6 = 0 then .nearest else .towardZero, capture := get1 p 7 != 0
    zeroL := getSigned3 p 8, zeroR := getSigned3 p 11, warn := get2 p 14, limit := get2 p 16, band := get2 p 18 }

theorem roundingOf_eq (n : Nat) : roundingOf n =
    if 1 < n then none else some (if n = 0 then Rounding.nearest else .towardZero) := by
  unfold roundingOf
  match n with
  | 0 => rfl
  | 1 => rfl
  | n + 2 => simp

/-- A CALIBRATE that fails a check is not read (R169). -/
theorem readCalibrate_bad {p : List Byte} (h : BadCalibrate p) : readCalibrate p = none := by
  unfold readCalibrate
  rw [roundingOf_eq]
  by_cases hr : 1 < get1 p 6
  · rw [if_pos hr]
  · rw [if_neg hr]
    dsimp only
    rw [if_pos]
    simp only [Bool.or_eq_true, beq_iff_eq, decide_eq_true_iff]
    unfold BadCalibrate at h
    omega

/-- A CALIBRATE that passes the checks is read as `calibrateOf` says (R169, R176). -/
theorem readCalibrate_good {p : List Byte} (h : ¬ BadCalibrate p) : readCalibrate p = some (calibrateOf p) := by
  unfold BadCalibrate at h
  unfold readCalibrate
  rw [roundingOf_eq, if_neg (by omega)]
  dsimp only
  rw [if_neg]
  · rfl
  · simp only [Bool.or_eq_true, beq_iff_eq, decide_eq_true_iff]
    omega

/-- The PRESENCE that an acceptance or a refusal offers, in a queue with room (R73). -/
theorem offer_presence_room (payload : List Byte) (t : State) (h : t.link.queue.length < 8) :
    (offer .presence 0 payload t).1 = { t with link := { t.link with
      queue := t.link.queue ++ [⟨t.link.nextId, .presence, 0, payload⟩], nextId := t.link.nextId + 1 } } := by
  rw [offer_presence, presenceLink_room _ _ h]

theorem takeCalibrate_ignored (f : RxFrame) (s : State) (h : f.position ≠ s.own ∨ s.conf.cal ≠ none) :
    takeCalibrate f s = s := by
  rw [takeCalibrate, if_neg]
  simpa [imp_iff_not_or, ← Option.ne_none_iff_isSome] using h

theorem takeCalibrate_offered (f : RxFrame) (s : State) (h : f.position = s.own) (hc : s.conf.cal = none) :
    takeCalibrate f s = offerCalibrate f.payload s := if_pos (by simp [h, hc])

/-- Settles O51: ignored, refused, accepted. -/
theorem calibrateTaken : Obligations.CalibrateTaken := by
  intro s f hs hl ha p u bad payload
  have hx := calibrateFrame_accepted s f hs hl ha
  refine ⟨fun c r zl zr t ht hq => ?_, fun h => ?_, fun hpos hc hbad => ?_, fun hpos hc hgood hm => ?_⟩
  · rw [offer_presence_room _ _ (by rw [ht]; exact hq), ht]
    rfl
  · rw [hx, takeCalibrate_ignored _ _ (by exact h)]
  · rw [hx, takeCalibrate_offered _ _ (by exact hpos) (by exact hc), offerCalibrate, readCalibrate_bad hbad]
    dsimp only
    rw [refuseSettings, offerPresence, configState_noCal _ (by exact hc)]
    rfl
  · refine ⟨calibrateOf p, rfl, rfl, rfl, bne_iff_ne, ⟨(getSigned3_range p 8).1, (getSigned3_range p 8).2,
      getSigned3_mod p 8⟩, ⟨(getSigned3_range p 11).1, (getSigned3_range p 11).2, getSigned3_mod p 11⟩, rfl, rfl, rfl, ?_⟩
    rw [hx, takeCalibrate_offered _ _ (by exact hpos) (by exact hc), offerCalibrate, readCalibrate_good hgood]
    dsimp only
    have hzero : calibratedZero (calibrateOf p) u.zero =
        { left := ⟨256 * (calibrateOf p).zeroL, 256 * (calibrateOf p).zeroL, .ok⟩
          right := ⟨256 * (calibrateOf p).zeroR, 256 * (calibrateOf p).zeroR, .ok⟩
          capturePending := (calibrateOf p).capture, count := 0, sumL := 0, sumR := 0 } := by
      simp [calibratedZero, zeroedChannel, u, delivered_zero, hm]
    rw [acceptCalibrate, hzero, offerPresence, configState_cal _ rfl]
    simp only [calibrateOf, bne_iff_ne]
    rfl

/-! ### SITE -/

theorem siteFrame_accepted (s : State) (f : RxFrame) (hs : s.strapFault = false) (hl : s.listening)
    (ha : s.accepts .site f) : exec (.siteFrame f) s = .next (takeSite f s.delivered) :=
  (inService_next _ s hs).trans (congrArg _ (receiveFrame_accepted .site f _ s hl ha))

/-- A SITE whose boundaries rise, the first above the section, in the units of its payload (R171, R176). -/
def GoodSite (len : Nat) (p : List Byte) : Prop :=
  get1 p 12 < get1 p 13 ∧ get1 p 13 < get1 p 14 ∧ len < get1 p 12 * 100

/-- What an accepted SITE payload says, clamped (R171, R176). -/
def siteOf (n : Nat) (p : List Byte) : Site :=
  { overload := get2 p 0, agree := get2 p 2, spread := get2 p 4, quiet := get2 p 6, refresh := get2 p 8
    impact := max (get2 p 10) 100
    b1 := get1 p 12 * 10, b2 := get1 p 13 * 10, b3 := get1 p 14 * 10
    imbalance := min (get1 p 15) 100
    k := max 4 (min (get1 p 16 / 16) 12)
    quorum := max 1 (min (get1 p 16 % 16) n)
    debounce := max 8 (min (get3 p 17 / 16384) 1023)
    mask := BitVec.ofNat 14 (get3 p 17 % 16384) }

theorem clampSite_eq (n : Nat) (p : List Byte) : clampSite n (rawSite p) = siteOf n p := by
  have hmask : BitVec.ofNat 14 (get3 p 17) = BitVec.ofNat 14 (get3 p 17 % 16384) :=
    BitVec.eq_of_toNat_eq (by simp)
  simp only [clampSite, rawSite, siteOf, clampNat, hmask]

theorem readSite_checks (len : Nat) (p : List Byte) :
    (decide ((rawSite p).b1 < (rawSite p).b2) && decide ((rawSite p).b2 < (rawSite p).b3) &&
      decide (len < (rawSite p).b1 * 10)) = true ↔ GoodSite len p := by
  rw [Bool.and_eq_true, Bool.and_eq_true, decide_eq_true_iff, decide_eq_true_iff, decide_eq_true_iff]
  simp only [rawSite, GoodSite]
  omega

/-- A SITE that passes the checks is read with its clamps (R171). -/
theorem readSite_good (n : Nat) {len : Nat} {p : List Byte} (h : GoodSite len p) :
    readSite n len p = some (siteOf n p) := by
  rw [← clampSite_eq]
  exact if_pos ((readSite_checks len p).2 h)

/-- A SITE that fails a check is not read (R171). -/
theorem readSite_bad (n : Nat) {len : Nat} {p : List Byte} (h : ¬ GoodSite len p) : readSite n len p = none :=
  if_neg (mt (readSite_checks len p).1 h)

/-- In QUIET with no dormant entry in flight the quiet timer takes its new length (R11). -/
theorem resizeQuiet_eq (s : State) : resizeQuiet s =
    { s with rc := if s.rc.rate = .quiet ∧ s.rc.dormantEntry = none then
        { s.rc with quietTimer := quietTimerOf s.tick s.conf.site } else s.rc } := by
  unfold resizeQuiet
  simp only [Bool.and_eq_true, beq_iff_eq, Option.isNone_iff_eq_none]
  split
  · exact startQuietTimer_eq s
  · rfl

theorem configState_noSite (s : State) (h : s.conf.site = none) :
    s.configState = if s.conf.cal = none then .blank else .calHeld := by
  unfold State.configState configStateOf
  rw [h]
  cases s.conf.cal <;> rfl

theorem configState_site (s : State) {st : Site} (h : s.conf.site = some st) : s.configState =
    if s.conf.cal = none then .listening else if s.zero.capturePending = true then .capturing else .ready := by
  unfold State.configState configStateOf
  rw [h]
  cases s.conf.cal <;> rfl

/-- Settles O52: ignored, refused, accepted. -/
theorem siteTaken : Obligations.SiteTaken := by
  intro s f hs hl ha p u good payload st
  have hx := siteFrame_accepted s f hs hl ha
  refine ⟨fun c r t ht hq => ?_, fun h => ?_, fun hn hbad => ?_, fun hn hgood => ?_⟩
  · rw [offer_presence_room _ _ (by rw [ht]; exact hq), ht]
    rfl
  · rw [hx, takeSite, if_neg (by rw [Option.isNone_iff_eq_none]; exact h)]
  · rw [hx, takeSite, if_pos (by rw [Option.isNone_iff_eq_none]; exact hn), readSite_bad _ (by exact hbad)]
    dsimp only
    rw [refuseSettings, offerPresence, configState_noSite _ (by exact hn)]
    rfl
  · rw [hx, takeSite, if_pos (by rw [Option.isNone_iff_eq_none]; exact hn), readSite_good _ (by exact hgood)]
    dsimp only
    rw [acceptSite, resizeQuiet_eq, offerPresence, configState_site _ rfl]
    rfl

end Sys2Proof.Machine
end

section
/-! Detector reports and the opening of a train. -/

namespace Sys2Proof.Machine

/-! ### Offers of any station kind -/

/-- The frame that an offer of kind `k` displaces (R74). -/
def displaced (k : Kind) (l : LinkControl) : Option QFrame := if l.queue.length < 8 then none else victimFor k l

/-- The Link Controller after an offer (R73, R74). -/
def offeredLink (k : Kind) (seq : BitVec 6) (payload : List Byte) (l : LinkControl) : LinkControl :=
  if l.queue.length < 8 then enqueue k seq payload l
  else
    match victimFor k l with
    | none => l
    | some v => enqueue k seq payload (removeFrame v.id l)

/-- The identity that an offered frame takes, if it enters (R73, R74). -/
def offeredId (k : Kind) (l : LinkControl) : Option Nat :=
  if l.queue.length < 8 then some l.nextId else (victimFor k l).map fun _ => l.nextId

/-- The Publication Table after the DROPPED notice of a displaced frame (R76, R151). -/
def tellDropped (v : Option QFrame) (es : List PubEntry) : List PubEntry :=
  match v with
  | none => es
  | some v => if v.kind = .vehicle ∨ v.kind = .dissent then es.map (noticeEntry v.id .dropped) else es

theorem tellDropped_nil (v : Option QFrame) : tellDropped v [] = [] := by
  unfold tellDropped
  split
  · rfl
  · simp

/-- An offer of a station frame writes the Link Controller and the Publication Table alone: the frame it displaces is of
a higher kind than its own, so never a TRAIN frame (R62, R74). -/
theorem offer_eq (k : Kind) (seq : BitVec 6) (payload : List Byte) (s : State) (hk : 3 ≤ kindValue k) :
    offer k seq payload s =
      ({ s with link := offeredLink k seq payload s.link, pub := tellDropped (displaced k s.link) s.pub },
        offeredId k s.link) := by
  by_cases h : s.link.queue.length < 8
  · rw [offer_room k seq payload s h]
    simp [offeredLink, offeredId, displaced, h, tellDropped]
  · cases hv : victimFor k s.link with
    | none =>
      rw [offer_refused k seq payload s (Nat.le_of_not_lt h) hv]
      simp [offeredLink, offeredId, displaced, h, hv, tellDropped]
    | some v =>
      have hn : v.kind ≠ .train := fun g => absurd (victimFor_kind hv) (by rw [g]; exact Nat.not_lt.2 hk)
      rw [offer, if_neg (by exact h), hv]
      dsimp only
      rw [notify_eq]
      simp [offeredLink, offeredId, displaced, h, hv, tellDropped, hn, removeFrame]

theorem offerTrain_eq (subtype ordinal vehicles : Nat) (reversed desync : Bool) (s : State) :
    offerTrain subtype ordinal vehicles reversed desync s =
      (let seq := seqOf s.train.number.toNat
       let payload := trainPayload subtype s.train.dir s.train.number ordinal vehicles reversed desync
       ({ s with link := offeredLink .train seq payload s.link, pub := tellDropped (displaced .train s.link) s.pub },
        offeredId .train s.link)) := offer_eq .train _ _ s le_rfl

/-! ### Debounce -/

theorem exec_detectorEvent (d : Detector) (dir : Direction) (s : State) (hs : s.strapFault = false) :
    exec (.detectorEvent d dir) s = .next (detectorEvent d dir s) := inService_next _ s hs

theorem detectorEvent_accepted (d : Detector) (dir : Direction) (s : State) (h : s.holdOver d) :
    detectorEvent d dir s = acceptDetector d dir s := if_pos ((holdEnded_iff s d).2 h)

theorem detectorEvent_ignored (d : Detector) (dir : Direction) (s : State) (h : ¬ s.holdOver d) :
    detectorEvent d dir s = s := if_neg (mt (holdEnded_iff s d).1 h)

theorem holdOver_set (s : State) (d : Detector) (e : Tick) (h : s.wheel.hold d = some e) :
    s.holdOver d ↔ 1 ≤ (s.tick - e).toNat ∧ (s.tick - e).toNat ≤ 2147483647 := by
  simp [State.holdOver, h]

theorem activeRate_flags (rc : RateControl) :
    (activeRate rc).detectorWake = rc.detectorWake ∧ (activeRate rc).linkWake = rc.linkWake := by
  unfold activeRate
  split <;> exact ⟨rfl, rfl⟩

/-- The holds and the detector wake flag of `s`. -/
def SameMarks (s t : State) : Prop :=
  t.wheel.holdA = s.wheel.holdA ∧ t.wheel.holdB = s.wheel.holdB ∧ t.rc.detectorWake = s.rc.detectorWake

theorem SameMarks.trans {s t u : State} (h : SameMarks s t) (g : SameMarks t u) : SameMarks s u :=
  ⟨g.1.trans h.1, g.2.1.trans h.2.1, g.2.2.trans h.2.2⟩

/-- A change to the train writes neither hold nor wake flag (R22). -/
theorem TrainAct.sameMarks {s t : State} (a : TrainAct s t) : SameMarks s t := by
  cases a with
  | calm h => exact ⟨h.holdA, h.holdB, by rw [h.rc]⟩
  | opens d st n h g => rw [openTrain_eq]; exact ⟨rfl, rfl, (activeRate_flags s.rc).1⟩
  | restarts h => exact ⟨rfl, rfl, rfl⟩
  | abandons e h => exact ⟨rfl, rfl, rfl⟩
  | ends h =>
    unfold trainEnded requestQuiet
    split <;> exact ⟨rfl, rfl, rfl⟩

theorem TrainActs.sameMarks {s t : State} (a : TrainActs s t) : SameMarks s t :=
  a.keep (P := SameMarks s) (fun _ _ b h => h.trans b.sameMarks) ⟨rfl, rfl, rfl⟩

/-- The station with an accepted report's hold and wake flag set (R22, R23). -/
def reported (d : Detector) (s : State) : State :=
  { s with wheel := s.wheel.setHold d (some (tickAfter s.tick (s.debounce - 1)))
           rc := { s.rc with detectorWake := true } }

theorem acceptDetector_eq (d : Detector) (dir : Direction) (s : State) :
    acceptDetector d dir s = wheelTakes d dir (trainTakesDetector dir (reported d s)) := rfl

theorem acceptDetector_sameMarks (d : Detector) (dir : Direction) (s : State) :
    SameMarks (reported d s) (acceptDetector d dir s) :=
  TrainActs.sameMarks ((trainTakesDetector_acts dir _).trans (wheelTakes_acts d dir _))

theorem SameMarks.hold {s t : State} (h : SameMarks s t) (d : Detector) : t.wheel.hold d = s.wheel.hold d := by
  cases d with
  | a => exact h.1
  | b => exact h.2.1

theorem hold_setHold_same (w : WheelTimer) (d : Detector) (e : Option Tick) : (w.setHold d e).hold d = e := by
  cases d <;> rfl

theorem hold_setHold_other (w : WheelTimer) {d o : Detector} (e : Option Tick) (h : o ≠ d) :
    (w.setHold d e).hold o = w.hold o := by
  cases d with
  | a => cases o with
    | a => exact absurd rfl h
    | b => rfl
  | b => cases o with
    | a => rfl
    | b => exact absurd rfl h

/-- Without a SITE an accepted report reaches no block beyond its hold and the wake flag (R23, R168). -/
theorem acceptDetector_noSite (d : Detector) (dir : Direction) (s : State) (h : s.conf.site = none) :
    acceptDetector d dir s = reported d s := by
  have hh : (reported d s).holdsTrains = false := by
    rw [holdsTrains_eq]
    exact congrArg Option.isSome h
  rw [acceptDetector_eq, trainTakesDetector, if_neg (by simp [hh]), wheelTakes, if_neg (by simp [hh])]

/-- Settles O36: inside and at the end of a hold, then an accepted report. -/
theorem debounceHolds : Obligations.DebounceHolds := by
  refine ⟨fun s d dir e hs hold => ?_, fun s t d dir hs hover ht => ?_⟩
  · have hx : exec (.debounceHoldEnd d) s = .next (debounceHoldEnd d s) := inService_next _ s hs
    have hiff := holdOver_set s d e hold
    refine ⟨fun hn => ⟨?_, ?_⟩, fun hl => ?_⟩
    · rw [exec_detectorEvent d dir s hs, detectorEvent_ignored d dir s (mt hiff.1 hn)]
    · rw [hx, debounceHoldEnd, if_neg (mt (holdEnded_iff s d).1 (mt hiff.1 hn))]
    · rw [hx, debounceHoldEnd, if_pos ((holdEnded_iff s d).2 (hiff.2 hl))]
      cases d <;> rfl
  · rw [exec_detectorEvent d dir s hs, detectorEvent_accepted d dir s hover] at ht ⊢
    cases ht
    have hm := acceptDetector_sameMarks d dir s
    refine ⟨?_, hm.2.2, fun o ho => ?_, fun hsite => ?_⟩
    · rw [hm.hold, reported, hold_setHold_same, State.debounce, siteValue_getD]
      rfl
    · rw [hm.hold]
      exact hold_setHold_other _ _ ho
    · rw [acceptDetector_noSite d dir s hsite, reported, State.debounce, siteValue_getD, hsite]
      cases d <;> rfl

/-! ### An empty Consensus Table -/

theorem slots_eq_free {slots : Vector Slot 16} (h : ∀ i : Fin 16, slots[i] = .free) :
    slots = Vector.replicate 16 .free := by
  ext i hi
  rw [Vector.getElem_replicate]
  exact h ⟨i, hi⟩

theorem slotOf_free (a : Nat) : slotOf (Vector.replicate 16 .free) a = none := by
  simp [slotOf, Slot.ordinal?]

theorem decidedOrdinals_free : decidedOrdinals (Vector.replicate 16 .free) = [] := by decide

/-- With every entry FREE no hand-over is due (R100, R101). -/
theorem handStep_free (s : State) (h : s.table.slots = Vector.replicate 16 .free) : handStep s = none := by
  simp [handStep, State.holeDue, h, slotOf_free, decidedOrdinals_free]

/-! ### The opening of a train by a report -/

/-- The station whose train a report has opened, before the Wheel Timer takes the report (R4, R6, R16, R90, R142, R156,
R157, R160, R166). -/
def openedByReport (d : Detector) (dir : Direction) (s : State) : State :=
  let number := s.train.number + 1
  { reported d s with
    train := { state := .running, dir := dir
               standing := if s.conf.cal.isSome = true ∧ s.zero.capturePending = false then .contributing else .notReady
               slips := 0, closeTimer := some (s.tick + 491520), ownClose := none, peerClose := none
               openFrame := offeredId .train s.link, closeFrame := none, number := number }
    link := offeredLink .train (seqOf number.toNat) (trainPayload trainOpenSubtype dir number 0 0 false false) s.link
    rc := activeRate { s.rc with detectorWake := true }
    fe := awakeFrontEnd s.rc.rate s.fe
    zero := { s.zero with count := 0, sumL := 0, sumR := 0 }
    table := { s.table with nextExpected := 1, highestOpened := 0, handedCount := 0, latestSpeed := none }
    asm := { s.asm with counter := 0, fullClose := false }
    pub := []
    wheel := { (reported d s).wheel with counter := 0, prev := none }
    pass := { s.pass with latestSpeed := none } }

/-- The standing of a train that opens in time (R157, R158). -/
theorem openStanding_eq (s : State) {st : Site} (h : s.conf.site = some st) : s.openStanding =
    if s.conf.cal.isSome = true ∧ s.zero.capturePending = false then .contributing else .notReady := by
  rw [State.openStanding, configState_site s h]
  cases s.conf.cal <;> cases s.zero.capturePending <;> rfl

theorem trainTakesDetector_opens (d : Detector) (dir : Direction) (s : State) {st : Site} (hsite : s.conf.site = some st)
    (hn : s.train.state = .noTrain) : trainTakesDetector dir (reported d s) = openedByReport d dir s := by
  have hh : (reported d s).holdsTrains = true := by
    rw [holdsTrains_eq]
    exact congrArg Option.isSome hsite
  have hstate : (reported d s).train.state = .noTrain := hn
  have hstand := openStanding_eq (reported d s) (by exact hsite)
  rw [trainTakesDetector, if_pos hh, hstate]
  dsimp only
  rw [openFromDetector, offerTrain_eq, hstand, openTrain_eq]
  dsimp only
  rw [tellDropped_nil]
  rfl

theorem wheelTakes_running (d : Detector) (dir : Direction) (s : State) (hh : s.holdsTrains = true)
    (hr : s.train.state = .running) (hd : dir = s.train.dir) :
    wheelTakes d dir s = if isEntry dir d then takeEntry s else takeExit s := by
  rw [wheelTakes, if_pos (by simp [hh, hr]), if_pos hd]

theorem takeExit_noDwell (s : State) (h : s.wheel.dwell = none) : takeExit s = s := by
  unfold takeExit
  rw [h]

theorem endOpenDwell_noDwell (s : State) (h : s.wheel.dwell = none) : endOpenDwell s = s := by
  unfold endOpenDwell
  rw [h]

/-- The first entry of a train opens the dwell of axle 1 (R25, R38, R39). -/
theorem takeEntry_first (s : State) (hc : s.wheel.counter = 0) (hd : s.wheel.dwell = none) (hp : s.wheel.prev = none)
    (hf : s.table.slots = Vector.replicate 16 .free) : takeEntry s =
      openPassage 1 { s with wheel := { s.wheel with
        counter := 1, dwell := some { ordinal := 1, entry := s.tick, aged := false, prevAged := false } } } := by
  rw [takeEntry, if_neg (by simp [hc, Config.max16]), endOpenDwell_noDwell s hd, openDwell, hc, hp]
  dsimp only
  rw [handChain_settled _ (handStep_free _ (by exact hf))]

theorem isEntry_iff (dir : Direction) (d : Detector) :
    isEntry dir d = true ↔ (dir = .up ∧ d = .a) ∨ (dir = .down ∧ d = .b) := by
  cases dir <;> cases d <;> decide

theorem activeRate_inactive (rc : RateControl) (h : rc.rate ≠ .active) : activeRate rc =
    { rc with rate := .active, quietTimer := none, dormantEntry := none
              refreshTimer := if rc.rate = .dormant then none else rc.refreshTimer } := if_neg h

theorem openPayload_eq (dir : Direction) (number : BitVec 8) :
    trainPayload trainOpenSubtype dir number 0 0 false false =
      [1, if dir = .up then 0 else 1, number, 0, 0, 0, 0, 0] := by
  cases dir <;> rfl

theorem offeredLink_room (k : Kind) (seq : BitVec 6) (payload : List Byte) (l : LinkControl) (h : l.queue.length < 8) :
    offeredLink k seq payload l =
      { l with queue := l.queue ++ [⟨l.nextId, k, seq, payload⟩], nextId := l.nextId + 1 } := if_pos h

theorem openedByReport_noDwell (d : Detector) (dir : Direction) (s : State) (h : s.wheel.dwell = none) :
    (openedByReport d dir s).wheel.dwell = none := by cases d <;> exact h

theorem openedByReport_hold (d : Detector) (dir : Direction) (s : State) {st : Site} (h : s.conf.site = some st) :
    (openedByReport d dir s).wheel.hold d = some (s.tick + BitVec.ofNat 32 (st.debounce - 1)) := by
  have hb : s.debounce = st.debounce := by rw [State.debounce, siteValue_getD, h]; rfl
  rw [← hb]
  cases d <;> rfl

theorem openedByReport_otherHold {d o : Detector} (dir : Direction) (s : State) (h : o ≠ d) :
    (openedByReport d dir s).wheel.hold o = s.wheel.hold o := by
  rw [← hold_setHold_other s.wheel (some (tickAfter s.tick (s.debounce - 1))) h]
  cases o <;> rfl

/-- What the Wheel Timer makes of the report that opened the train: the entry of axle 1, or an exit with no dwell open
(R24, R25, R28). -/
theorem exec_detectorEvent_opens (d : Detector) (dir : Direction) (s : State) (hs : s.strapFault = false)
    (hover : s.holdOver d) {st : Site} (hsite : s.conf.site = some st) (hn : s.train.state = .noTrain)
    (hd : s.wheel.dwell = none) (hfree : s.table.slots = Vector.replicate 16 .free) :
    exec (.detectorEvent d dir) s = .next (if isEntry dir d = true then
      openPassage 1 { openedByReport d dir s with wheel := { (openedByReport d dir s).wheel with
        counter := 1, dwell := some { ordinal := 1, entry := s.tick, aged := false, prevAged := false } } }
      else openedByReport d dir s) := by
  have hdwell := openedByReport_noDwell d dir s hd
  have hh : (openedByReport d dir s).holdsTrains = true := by
    rw [holdsTrains_eq]
    exact congrArg Option.isSome hsite
  rw [exec_detectorEvent d dir s hs, detectorEvent_accepted d dir s hover, acceptDetector_eq,
    trainTakesDetector_opens d dir s hsite hn, wheelTakes_running d dir _ hh rfl rfl]
  split
  · rw [takeEntry_first _ rfl hdwell rfl hfree]
    rfl
  · rw [takeExit_noDwell _ hdwell]

/-- Settles O38: the opening, then the report as an entry or as an exit. -/
theorem detectorOpensTrain : Obligations.DetectorOpensTrain := by
  intro s st d dir hs hover hsite hn hr hd hfree entry num offered
  have hoffer : offered = _ := offer_eq .train _ _ s le_rfl
  have hlink : (openedByReport d dir s).link = offered.1.link := by
    rw [hoffer, openedByReport, openPayload_eq]
    rfl
  have hid : offered.2 = offeredId .train s.link := by rw [hoffer]
  have hroom : s.link.queue.length < 8 → offered.2 = some s.link.nextId ∧ offered.1.link = { s.link with
      queue := s.link.queue ++ [⟨s.link.nextId, .train, BitVec.ofNat 6 num.toNat,
        [1, if dir = .up then 0 else 1, num, 0, 0, 0, 0, 0]⟩]
      nextId := s.link.nextId + 1 } := fun hq => by
    rw [hoffer]
    exact ⟨if_pos hq, offeredLink_room _ _ _ _ hq⟩
  have hrc := activeRate_inactive { s.rc with detectorWake := true } hr
  have hhold := openedByReport_hold d dir s hsite
  have hother := fun o => openedByReport_otherHold (o := o) (d := d) dir s
  have hx := exec_detectorEvent_opens d dir s hs hover hsite hn hd (slots_eq_free hfree)
  by_cases he : entry
  · rw [if_pos ((isEntry_iff dir d).2 he)] at hx
    refine ⟨_, hx, by rw [hid]; rfl, hlink, fun hq => ⟨(hroom hq).1, hlink.trans (hroom hq).2⟩, hrc, rfl, rfl, rfl, rfl,
      rfl, ?_, rfl, fun o ho => ?_, fun _ => ⟨rfl, rfl, _, rfl, rfl, rfl, rfl, rfl, rfl, rfl, rfl, rfl⟩,
      fun n => absurd he n, rfl, rfl, rfl, rfl, rfl, rfl, rfl⟩
    · exact hhold ▸ (by cases d <;> rfl)
    · exact hother o ho ▸ (by cases o <;> rfl)
  · rw [if_neg (mt (isEntry_iff dir d).1 he)] at hx
    exact ⟨_, hx, by rw [hid]; rfl, hlink, fun hq => ⟨(hroom hq).1, hlink.trans (hroom hq).2⟩, hrc, rfl, rfl, rfl, rfl,
      rfl, hhold, rfl, hother, fun h => absurd h he,
      fun _ => ⟨rfl, openedByReport_noDwell d dir s hd, rfl, rfl⟩, rfl, rfl, rfl, rfl, rfl, rfl, rfl⟩

end Sys2Proof.Machine
end

section
/-! Peers' TRAIN-OPEN frames and the close of a train. -/

namespace Sys2Proof.Machine

/-! ### Delivery of station frames -/

/-- Blocks that neither read nor write the Roster take a frame before it as after it (R72, R83). -/
theorem deliverStation_eq (k : Kind) (f : RxFrame) (others : State → State) (s : State)
    (h : rosterTake k f (others s) = others (rosterTake k f s)) :
    deliverStation k f others s = others (rosterTake k f s) := by
  unfold deliverStation
  split
  · exact h
  · rfl

theorem trainOpenFrame_accepted (s : State) (f : RxFrame) (hs : s.strapFault = false) (hl : s.listening)
    (ha : s.accepts .train f) : exec (.trainOpenFrame f) s =
      .next (deliverStation .train f (takeTrainFrame trainOpenSubtype f takeTrainOpen) s.delivered) :=
  (inService_next _ s hs).trans (congrArg _ (receiveFrame_accepted .train f _ s hl ha))

theorem takeTrainFrame_own (n : Nat) (f : RxFrame) (d : TrainFrame → State → State) (s : State)
    (h : get1 f.payload 0 = n) : takeTrainFrame n f d s = d (readTrain f.position f.payload) s := if_pos h

theorem takeTrainFrame_other (n : Nat) (f : RxFrame) (d : TrainFrame → State → State) (s : State)
    (h : get1 f.payload 0 ≠ n) : takeTrainFrame n f d s = s := if_neg h

theorem dirOf_bit (n : Nat) : dirOf (bitOf n 0) = if n % 2 = 1 then .down else .up := by
  simp [dirOf, bitOf]

theorem takeTrainOpen_ignored (g : TrainFrame) (s : State) (h : s.conf.site = none ∨ s.train.state = .abandoned) :
    takeTrainOpen g s = s := by
  unfold takeTrainOpen
  split
  · rename_i hh
    rw [holdsTrains_eq] at hh
    rw [h.resolve_left (by simpa [Option.isSome_iff_ne_none] using hh)]
  · rfl

theorem holdsTrains_of_site (s : State) (h : s.conf.site ≠ none) : s.holdsTrains = true := by
  rw [holdsTrains_eq, Option.isSome_iff_ne_none]
  exact h

theorem takeTrainOpen_opens (g : TrainFrame) (s : State) (h : s.conf.site ≠ none) (hn : s.train.state = .noTrain) :
    takeTrainOpen g s = openTrain g.dir s.openStanding 1 s := by
  rw [takeTrainOpen, if_pos (holdsTrains_of_site s h), hn]

theorem takeTrainOpen_same (g : TrainFrame) (s : State) (h : s.conf.site ≠ none) (hr : s.train.state = .running)
    (hd : g.dir = s.train.dir) : takeTrainOpen g s = cancelOpen s := by
  rw [takeTrainOpen, if_pos (holdsTrains_of_site s h), hr]
  exact if_pos hd

/-- A frame that waits is removed by its cancellation, without notice (R75). -/
theorem cancelFrame_waiting (s : State) (pre post : List QFrame) (g : QFrame) (hq : s.link.queue = pre ++ g :: post)
    (h : ∀ x ∈ pre ++ post, x.id ≠ g.id) (ha : s.link.attempt ≠ some g.id) : cancelFrame g.id s =
      { s with link := { s.link with queue := pre ++ post
                                     counted := if s.link.counted = some g.id then none else s.link.counted
                                     attempts := if s.link.counted = some g.id then 0 else s.link.attempts } } := by
  rw [cancelFrame, if_pos (by simp [hq]), if_neg ha, removeFrame_eq _ pre post g hq h]

theorem cancelOpen_none (s : State) (h : s.train.openFrame = none) : cancelOpen s = s := by
  unfold cancelOpen
  rw [h]

theorem cancelOpen_some (s : State) {id : Nat} (h : s.train.openFrame = some id) : cancelOpen s =
    { cancelFrame id s with train := { (cancelFrame id s).train with openFrame := none } } := by
  unfold cancelOpen
  rw [h]

theorem openStanding_site (s : State) (h : s.conf.site ≠ none) : s.openStanding =
    if s.conf.cal.isSome = true ∧ s.zero.capturePending = false then .contributing else .notReady := by
  obtain ⟨st, hst⟩ := Option.ne_none_iff_exists'.1 h
  exact openStanding_eq s hst

/-- Without a SITE, with another subtype and in ABANDONED a TRAIN-OPEN row has no taker but the Roster (R158, R179). -/
theorem trainOpen_ignored (f : RxFrame) (t : State)
    (h : t.conf.site = none ∨ get1 f.payload 0 ≠ 1 ∨ t.train.state = .abandoned) :
    takeTrainFrame trainOpenSubtype f takeTrainOpen t = t := by
  by_cases hsub : get1 f.payload 0 = trainOpenSubtype
  · rw [takeTrainFrame_own _ _ _ _ hsub]
    exact takeTrainOpen_ignored _ t (h.imp_right fun g => g.resolve_left fun n => n hsub)
  · exact takeTrainFrame_other _ _ _ _ hsub

section OwnSubtype
variable (f : RxFrame) (t : State) (hsite : t.conf.site ≠ none) (hsub : get1 f.payload 0 = 1)
include hsite hsub

theorem trainOpen_opens (hn : t.train.state = .noTrain) : takeTrainFrame trainOpenSubtype f takeTrainOpen t =
    openTrain (dirOf (bitOf (get1 f.payload 1) 0)) t.openStanding 1 t := by
  rw [takeTrainFrame_own trainOpenSubtype _ _ _ hsub, takeTrainOpen_opens _ _ hsite hn]
  rfl

theorem trainOpen_same (hr : t.train.state = .running) (hd : dirOf (bitOf (get1 f.payload 1) 0) = t.train.dir) :
    takeTrainFrame trainOpenSubtype f takeTrainOpen t = cancelOpen t := by
  rw [takeTrainFrame_own trainOpenSubtype _ _ _ hsub]
  exact takeTrainOpen_same _ t hsite hr hd

end OwnSubtype

/-- The own TRAIN-OPEN that waits leaves the queue (R75, R158). -/
theorem cancelOpen_waiting (s : State) (pre post : List QFrame) (g : QFrame) (ho : s.train.openFrame = some g.id)
    (hq : s.link.queue = pre ++ g :: post) (h : ∀ x ∈ pre ++ post, x.id ≠ g.id) (ha : s.link.attempt ≠ some g.id) :
    cancelOpen s =
      { s with train := { s.train with openFrame := none }
               link := { s.link with queue := pre ++ post
                                     counted := if s.link.counted = some g.id then none else s.link.counted
                                     attempts := if s.link.counted = some g.id then 0 else s.link.attempts } } := by
  rw [cancelOpen_some s ho, cancelFrame_waiting s pre post g hq h ha]

/-- Settles O54: ignored, opening, and the own TRAIN-OPEN absent or waiting. The Roster commutes with each. -/
theorem trainOpenTaken : Obligations.TrainOpenTaken := by
  intro s f hs hl ha u d
  have hx := trainOpenFrame_accepted s f hs hl ha
  have hdir : dirOf (bitOf (get1 f.payload 1) 0) = d := dirOf_bit _
  refine ⟨fun h => ?_, fun hsite hsub hn hr => ?_, fun hsite hsub hr hd ho => ?_,
    fun pre post g hsite hsub hr hd ho hq hid hatt => ?_⟩
  · have hlast := trainOpen_ignored f s.delivered h
    have hfirst := trainOpen_ignored f u h
    rw [hx, deliverStation_eq _ _ _ _ (by rw [hlast, hfirst]), hfirst]
  · have hlast := trainOpen_opens f s.delivered hsite hsub hn
    have hfirst := trainOpen_opens f u hsite hsub hn
    rw [hx, deliverStation_eq, hfirst, openTrain_eq, openStanding_site u hsite, activeRate_inactive u.rc hr, hdir]
    · rfl
    · rw [hlast, hfirst, openTrain_eq, openTrain_eq]
      rfl
  · have hlast := trainOpen_same f s.delivered hsite hsub hr (hdir.trans hd)
    have hfirst := trainOpen_same f u hsite hsub hr (hdir.trans hd)
    rw [cancelOpen_none s.delivered ho] at hlast
    rw [cancelOpen_none u ho] at hfirst
    rw [hx, deliverStation_eq _ _ _ _ (by rw [hlast, hfirst]), hfirst]
  · have hlast := trainOpen_same f s.delivered hsite hsub hr (hdir.trans hd)
    have hfirst := trainOpen_same f u hsite hsub hr (hdir.trans hd)
    have hn : s.link.attempt ≠ some g.id := by simp [hatt]
    rw [cancelOpen_waiting s.delivered pre post g ho hq hid hn] at hlast
    rw [cancelOpen_waiting u pre post g ho hq hid hn] at hfirst
    rw [hx, deliverStation_eq, hfirst]
    · rfl
    · rw [hlast, hfirst]
      rfl

end Sys2Proof.Machine
end

section
/-! The Consensus Table under forced steps, and peers' AXLE frames. -/

namespace Sys2Proof.Machine

/-! ### Slots -/

theorem slotOf_ordinal {slots : Vector Slot 16} {a : Nat} {i : Fin 16} (h : slotOf slots a = some i) :
    (slots[i]).ordinal? = some a := by
  simpa using List.find?_some h

theorem freeSlot_free : freeSlot (Vector.replicate 16 .free) = some 0 := by decide

theorem mem_decidedOrdinals {slots : Vector Slot 16} {o : Nat} (h : o ∈ decidedOrdinals slots) :
    ∃ i : Fin 16, (slots[i]).ordinal? = some o := by
  obtain ⟨sl, hsl, ho⟩ := List.mem_filterMap.1 h
  obtain ⟨i, hi, rfl⟩ := Vector.getElem_of_mem (Vector.mem_toList_iff.1 hsl)
  refine ⟨⟨i, hi⟩, ?_⟩
  rw [Fin.getElem_fin]
  cases hs : slots[i] with
  | free => simp [hs, Slot.decidedOrdinal?] at ho
  | opened c e => simp [hs, Slot.decidedOrdinal?] at ho
  | decided c a => simpa [hs, Slot.decidedOrdinal?, Slot.ordinal?] using ho

theorem maxOf_le {l : List Nat} {m : Nat} (h : ∀ o ∈ l, o ≤ m) : maxOf l ≤ m := by
  have hfold : ∀ (l : List Nat) (k : Nat), k ≤ m → (∀ o ∈ l, o ≤ m) → l.foldl max k ≤ m := by
    intro l
    induction l with
    | nil => exact fun k hk _ => hk
    | cons x xs ih =>
      intro k hk hx
      exact ih _ (max_le hk (hx x (by simp))) fun o ho => hx o (by simp [ho])
  exact hfold l 0 (Nat.zero_le m) h

/-! ### next_expected under hand-overs and forced steps -/

/-- The table after one hand-over at next_expected (R100, R102). -/
def ConsensusTable.raised (tb : ConsensusTable) : ConsensusTable :=
  { tb with nextExpected := tb.nextExpected + 1, handedCount := min (tb.handedCount + 1) 65535 }

theorem handAxle_eq (a : ConsensusAxle) (s : State) : handAxle a s = takeAxle a { s with table := s.table.raised } := rfl

theorem handEntry_eq (i : Fin 16) (a : ConsensusAxle) (s : State) : handEntry i a s =
    takeAxle a { s with table := { s.table.raised with slots := s.table.slots.set i .free } } := rfl

theorem handAxle_table (a : ConsensusAxle) (s : State) : (handAxle a s).table = s.table.raised := by
  rw [handAxle_eq, takeAxle_table]

theorem handEntry_table (i : Fin 16) (a : ConsensusAxle) (s : State) : (handEntry i a s).table =
    { s.table.raised with slots := s.table.slots.set i .free } := by
  rw [handEntry_eq, takeAxle_table]

theorem handStep_nextExpected {s t : State} (h : handStep s = some t) :
    t.table.nextExpected = s.table.nextExpected + 1 := by
  unfold handStep at h
  split at h
  · split at h
    · cases h
      rw [handEntry_table]
      rfl
    · cases h
    · cases h
  · split at h
    · cases h
      rw [handAxle_table]
      rfl
    · cases h

theorem handRun_nextExpected (n : Nat) (s : State) : s.table.nextExpected ≤ (handRun n s).table.nextExpected ∧
    (handRun n s).table.nextExpected ≤ s.table.nextExpected + n := by
  induction n generalizing s with
  | zero => exact ⟨le_rfl, le_rfl⟩
  | succ n ih =>
    unfold handRun
    split
    · exact ⟨le_rfl, Nat.le_add_right _ _⟩
    · rename_i t h
      have hn := handStep_nextExpected h
      have ht := ih t
      omega

/-- The hand-over chain stays within the window's highest entry (R89, R100). -/
theorem handChain_nextExpected {s : State} {m : Nat} (hm : s.table.nextExpected ≤ m + 1)
    (h : ∀ (i : Fin 16) (o : Nat), (s.table.slots[i]).ordinal? = some o → o ≤ m) :
    s.table.nextExpected ≤ (handChain s).table.nextExpected ∧ (handChain s).table.nextExpected ≤ m + 1 := by
  have hmax : maxOf (decidedOrdinals s.table.slots) ≤ m := maxOf_le fun o ho => by
    obtain ⟨i, hi⟩ := mem_decidedOrdinals ho
    exact h i o hi
  have hr := handRun_nextExpected (maxOf (decidedOrdinals s.table.slots) + 1 - s.table.nextExpected) s
  unfold handChain
  omega

theorem decideEntry_table (i : Fin 16) (c : Collecting) (t : Trigger) (s : State) : (decideEntry i c t s).table =
    { s.table with slots := s.table.slots.set i (.decided c (decideAxle s.decisionSettings c t))
                   latestSpeed := some (decideAxle s.decisionSettings c t).speed } := by
  unfold decideEntry
  rw [takeOwnSlip_table]
  rfl

theorem forcedStep_none (s : State) (h : slotOf s.table.slots s.table.nextExpected = none) :
    forcedStep s = handAxle (holeAxle s.table.nextExpected true) s := by
  unfold forcedStep
  rw [h]

theorem forcedStep_opened (s : State) {i : Fin 16} {c : Collecting} {e : Tick}
    (h : slotOf s.table.slots s.table.nextExpected = some i) (hi : s.table.slots[i] = .opened c e) :
    forcedStep s = handEntry i (decideAxle s.decisionSettings c .forced) (decideEntry i c .forced s) := by
  unfold forcedStep
  rw [h]
  dsimp only
  rw [hi]

theorem forcedStep_decided (s : State) {i : Fin 16} {c : Collecting} {a : ConsensusAxle}
    (h : slotOf s.table.slots s.table.nextExpected = some i) (hi : s.table.slots[i] = .decided c a) :
    forcedStep s = handEntry i a s := by
  unfold forcedStep
  rw [h]
  dsimp only
  rw [hi]

/-- A forced step hands one ordinal and frees its slot (R93, R104, R105). -/
theorem forcedStep_table (s : State) : ∃ slots v, (forcedStep s).table =
    { s.table.raised with slots := slots, latestSpeed := v } ∧
    ∀ j : Fin 16, slots[j] = s.table.slots[j] ∨ slots[j] = .free := by
  have hset : ∀ i j : Fin 16, (s.table.slots.set i .free)[j] = s.table.slots[j] ∨ (s.table.slots.set i .free)[j] = .free := by
    intro i j
    simp only [Fin.getElem_fin, Vector.getElem_set]
    split
    · exact .inr rfl
    · exact .inl rfl
  cases hs : slotOf s.table.slots s.table.nextExpected with
  | none =>
    rw [forcedStep_none s hs, handAxle_table]
    exact ⟨_, _, rfl, fun j => .inl rfl⟩
  | some i =>
    cases hi : s.table.slots[i] with
    | free => exact absurd (slotOf_ordinal hs) (by simp [hi, Slot.ordinal?])
    | opened c e =>
      rw [forcedStep_opened s hs hi, handEntry_table, decideEntry_table]
      exact ⟨_, _, rfl, by simpa only [Vector.set_set] using hset i⟩
    | decided c a =>
      rw [forcedStep_decided s hs hi, handEntry_table]
      exact ⟨_, _, rfl, hset i⟩

theorem forcedStep_nextExpected (s : State) : (forcedStep s).table.nextExpected = s.table.nextExpected + 1 := by
  obtain ⟨_, _, h, -⟩ := forcedStep_table s
  rw [h]
  rfl

theorem forcedStep_handedCount (s : State) : (forcedStep s).table.handedCount = min (s.table.handedCount + 1) 65535 := by
  obtain ⟨_, _, h, -⟩ := forcedStep_table s
  rw [h]
  rfl

/-! ### The forced advance -/

/-- The state that one round of a forced advance leaves (R93). -/
def advanceOnce (s : State) : State := handChain (forcedStep s)

theorem advanceOnce_frame (s : State) : TableFrame s (advanceOnce s) := (forcedStep_frame s).trans (handChain_frame _)

theorem le_advanceOnce (s : State) : s.table.nextExpected + 1 ≤ (advanceOnce s).table.nextExpected := by
  rw [← forcedStep_nextExpected]
  exact (handRun_nextExpected _ _).1

/-- Entries inside the window stay below the contribution that forces it (R89, R93). -/
theorem advanceOnce_le (s : State) (h : ∀ (i : Fin 16) (o : Nat), (s.table.slots[i]).ordinal? = some o →
    o ≤ s.table.nextExpected + 15) : (advanceOnce s).table.nextExpected ≤ s.table.nextExpected + 16 := by
  obtain ⟨slots, v, ht, hslots⟩ := forcedStep_table s
  refine (handChain_nextExpected (s := forcedStep s) (m := s.table.nextExpected + 15) ?_ fun i o ho => ?_).2
  · rw [forcedStep_nextExpected]
    omega
  · rw [ht] at ho
    rcases hslots i with g | g
    · exact h i o (by rw [← g]; exact ho)
    · have hn : (slots[i]).ordinal? = some o := ho
      simp [g, Slot.ordinal?] at hn

theorem forceAdvance_done (n a : Nat) (s : State) (h : a ≤ s.table.nextExpected + 15) : forceAdvance n a s = s := by
  cases n with
  | zero => rfl
  | succ n => exact if_neg (Nat.not_lt.2 h)

theorem forceAdvance_more (n a : Nat) (s : State) (h : s.table.nextExpected + 15 < a) :
    forceAdvance (n + 1) a s = forceAdvance n a (advanceOnce s) := if_pos h

/-- Each round of a forced advance hands at least one ordinal, so fuel beyond the distance is not used (R93). -/
theorem forceAdvance_fuel (n m a : Nat) (s : State) (hn : a ≤ s.table.nextExpected + 15 + n)
    (hm : a ≤ s.table.nextExpected + 15 + m) : forceAdvance n a s = forceAdvance m a s := by
  induction n generalizing m s with
  | zero => rw [forceAdvance_done 0 a s hn, forceAdvance_done m a s hn]
  | succ n ih =>
    by_cases hd : a ≤ s.table.nextExpected + 15
    · rw [forceAdvance_done _ a s hd, forceAdvance_done m a s hd]
    · obtain ⟨m, rfl⟩ := Nat.exists_eq_add_one_of_ne_zero (n := m) (by omega)
      have hle := le_advanceOnce s
      rw [forceAdvance_more n a s (by omega), forceAdvance_more m a s (by omega)]
      exact ih m _ (by omega) (by omega)

/-- In an empty table a forced advance hands holes alone (R93, R101). -/
theorem forceAdvance_empty (n a : Nat) (s : State) (hf : s.table.slots = Vector.replicate 16 .free)
    (hc : s.table.handedCount ≤ 65535) (h : s.table.nextExpected + 15 + n ≤ a) :
    AssemblyFrame { s with table := { s.table with
      nextExpected := s.table.nextExpected + n, handedCount := min (s.table.handedCount + n) 65535 } }
      (forceAdvance n a s) := by
  induction n generalizing s with
  | zero =>
    have hmin : min (s.table.handedCount + 0) 65535 = s.table.handedCount := by omega
    rw [hmin]
    exact AssemblyFrame.refl s
  | succ n ih =>
    have hstep := forcedStep_none s (by rw [hf, slotOf_free])
    have htable : (forcedStep s).table = s.table.raised := by rw [hstep, handAxle_table]
    have hchain : advanceOnce s = forcedStep s :=
      handChain_settled _ (handStep_free _ (by rw [htable]; exact hf))
    have hframe : AssemblyFrame { s with table := s.table.raised } (forcedStep s) := by
      rw [hstep]
      exact takeAxle_frame _ _
    rw [forceAdvance_more n a s (by omega), hchain]
    have hrest := ih (forcedStep s) (by rw [htable]; exact hf) (by rw [htable]; exact Nat.min_le_right _ _)
      (by rw [htable]; exact (by omega : s.table.nextExpected + 1 + 15 + n ≤ a))
    rw [htable] at hrest
    obtain ⟨l, p, o, c, x, hx⟩ := hframe
    obtain ⟨l', p', o', c', x', hx'⟩ := hrest
    refine ⟨l', p', o', c', x', ?_⟩
    rw [hx', hx]
    have hnext : s.table.raised.nextExpected + n = s.table.nextExpected + (n + 1) := by
      simp only [ConsensusTable.raised]
      omega
    have hmin : min (s.table.raised.handedCount + n) 65535 = min (s.table.handedCount + (n + 1)) 65535 := by
      simp only [ConsensusTable.raised]
      omega
    rw [hnext, hmin]
    rfl

end Sys2Proof.Machine
end

section
/-! Peers' AXLE frames: the opening, the first entry, the forced advance. -/

namespace Sys2Proof.Machine

/-! ### Taking a contribution -/

/-- The Consensus Table takes contributions of direction `dir` (R91). -/
def State.takes (s : State) (dir : Direction) : Prop :=
  s.conf.site ≠ none ∧ s.train.state = .running ∧ dir = s.train.dir

theorem TableFrame.takes {s t : State} {dir : Direction} (h : TableFrame s t) (g : s.takes dir) : t.takes dir := by
  obtain ⟨_, _, _, _, _, _, _, _, _, rfl⟩ := h
  exact g

theorem takeContribution_eq (p : Pos) (q : Partial) (s : State) (h : s.takes q.dir) :
    takeContribution p q s = if q.ordinal < s.table.nextExpected then s
      else storeInWindow p q (forceAdvance (q.ordinal - s.table.nextExpected - 15) q.ordinal s) := by
  obtain ⟨hsite, hr, hd⟩ := h
  exact if_pos (by simp [holdsTrains_of_site s hsite, hr, hd])

theorem takeContribution_late (p : Pos) (q : Partial) (s : State) (h : s.takes q.dir)
    (hq : q.ordinal < s.table.nextExpected) : takeContribution p q s = s := by
  rw [takeContribution_eq p q s h, if_pos hq]

/-- A contribution beyond the window is taken again after each round of the forced advance (R93). -/
theorem takeContribution_forced (p : Pos) (q : Partial) (s : State) (h : s.takes q.dir)
    (hq : s.table.nextExpected + 15 < q.ordinal)
    (hw : ∀ (i : Fin 16) (n : Nat), (s.table.slots[i]).ordinal? = some n → n ≤ s.table.nextExpected + 15) :
    takeContribution p q s = takeContribution p q (advanceOnce s) := by
  have hlo := le_advanceOnce s
  have hhi := advanceOnce_le s hw
  obtain ⟨n, hn⟩ := Nat.exists_eq_add_one_of_ne_zero (n := q.ordinal - s.table.nextExpected - 15) (by omega)
  rw [takeContribution_eq p q s h, takeContribution_eq p q _ ((advanceOnce_frame s).takes h), if_neg (by omega),
    if_neg (by omega), hn, forceAdvance_more n _ s hq,
    forceAdvance_fuel n (q.ordinal - (advanceOnce s).table.nextExpected - 15) _ _ (by omega) (by omega)]

/-- In an empty table a contribution inside the window makes the entry of slot 0 (R94). -/
theorem storeInWindow_empty (p : Pos) (q : Partial) (s : State) (hf : s.table.slots = Vector.replicate 16 .free) :
    storeInWindow p q s = storeAt 0 (s.newEntry q.ordinal) p q
      { s with table := { s.table with highestOpened := max s.table.highestOpened q.ordinal } } := by
  rw [storeInWindow, hf, slotOf_free]
  dsimp only
  rw [freeSlot_free]

theorem storeAt_waiting (i : Fin 16) (c : Collecting) (p : Pos) (q : Partial) (s : State)
    (h : (c.place p q).awaitedList ≠ []) : storeAt i c p q s =
      { s with table := { s.table with slots := s.table.slots.set i (.opened (c.place p q) (s.tick + BitVec.ofNat 32
        (deadlineTicks s.conf.straps.length (c.place p q).awaitedList.length q.speed))) } } :=
  if_neg (mt List.length_eq_zero_iff.1 h)

theorem storeAt_complete (i : Fin 16) (c : Collecting) (p : Pos) (q : Partial) (s : State)
    (h : (c.place p q).awaitedList = []) : storeAt i c p q s = handChain (decideEntry i (c.place p q) .complete s) :=
  if_pos (List.length_eq_zero_iff.2 h)

/-! ### The opening by a peer's AXLE frame -/

/-- The standing of a train that a peer's AXLE frame opens (R159). -/
def axleStanding (q : Partial) (s : State) : Standing :=
  if 1 < q.ordinal then .joined
  else if (s.conf.cal.isSome && !s.zero.capturePending) = true then .contributing else .notReady

/-- The station whose train a peer's AXLE frame has opened, with the frame's ordinal the highest opened (R4, R6, R16,
R90, R142, R156, R159, R160). -/
def openedByAxle (q : Partial) (s : State) : State :=
  { s with
    train := { state := .running, dir := q.dir, standing := axleStanding q s, slips := 0
               closeTimer := some (s.tick + 491520), ownClose := none, peerClose := none
               openFrame := none, closeFrame := none, number := s.train.number + 1 }
    wheel := { s.wheel with counter := 0, prev := none }
    pass := { s.pass with latestSpeed := none }
    table := { s.table with nextExpected := max 1 q.ordinal, highestOpened := q.ordinal, handedCount := 0
                            latestSpeed := none }
    asm := { s.asm with counter := 0, fullClose := false }
    pub := []
    fe := awakeFrontEnd s.rc.rate s.fe
    rc := activeRate s.rc
    zero := { s.zero with count := 0, sumL := 0, sumR := 0 } }

theorem trainTakesAxle_opens (q : Partial) (s : State) (h : s.conf.site ≠ none) (hn : s.train.state = .noTrain) :
    trainTakesAxle q s = { openedByAxle q s with table := { (openedByAxle q s).table with highestOpened := 0 } } := by
  rw [trainTakesAxle, if_pos (holdsTrains_of_site s h), hn]
  dsimp only
  split
  · rename_i hq
    have hst : s.openStanding = axleStanding q s := by
      rw [openStanding_site s h, axleStanding, if_neg (Nat.not_lt.2 hq)]
      simp
    rw [hst, openTrain_eq, openedByAxle, max_eq_left hq]
  · rename_i hq
    have hst : axleStanding q s = .joined := if_pos (Nat.lt_of_not_le hq)
    rw [← hst, openTrain_eq, openedByAxle, max_eq_right (Nat.le_of_not_le hq)]

theorem trainTakesAxle_running (q : Partial) (s : State) (h : s.conf.site ≠ none) (hr : s.train.state = .running) :
    trainTakesAxle q s = restartClose s := by
  rw [trainTakesAxle, if_pos (holdsTrains_of_site s h), hr]

theorem takeAxleFrame_eq (f : RxFrame) (s : State) :
    takeAxleFrame f s = takeContribution f.position (readAxle f.payload) (trainTakesAxle (readAxle f.payload) s) := rfl

theorem axleFrame_accepted (s : State) (f : RxFrame) (hs : s.strapFault = false) (hl : s.listening)
    (ha : s.accepts .axle f) :
    exec (.axleFrame f) s = .next (deliverStation .axle f (takeAxleFrame f) s.delivered) :=
  (inService_next _ s hs).trans (congrArg _ (receiveFrame_accepted .axle f _ s hl ha))

theorem deliverStation_last (k : Kind) (f : RxFrame) (others : State → State) (s : State) :
    deliverStation k f others s =
      if f.rosterLast = true then rosterTake k f (others s) else others (rosterTake k f s) := rfl

/-- The first entry of a train that a peer's AXLE frame opens (R81, R94, R95). -/
def axleEntry (p : Pos) (q : Partial) (s : State) : Collecting :=
  { ordinal := q.ordinal
    contribs := (Vector.replicate 8 none).set p (some q)
    expected := (Vector.ofFn fun x : Pos => if x = s.own then
      (s.conf.cal.isSome && !s.zero.capturePending) && decide (q.ordinal = 1) else (s.roster[x]).awaited).set p true }

theorem axleStanding_contributing (q : Partial) (s : State) (h : 1 ≤ q.ordinal) :
    (axleStanding q s == .contributing) =
      ((s.conf.cal.isSome && !s.zero.capturePending) && decide (q.ordinal = 1)) := by
  unfold axleStanding
  split
  · rename_i hq
    have hne : decide (q.ordinal = 1) = false := by simp; omega
    rw [hne, Bool.and_false]
    rfl
  · rename_i hq
    have he : decide (q.ordinal = 1) = true := by simp; omega
    rw [he, Bool.and_true]
    cases (s.conf.cal.isSome && !s.zero.capturePending) <;> rfl

theorem newEntry_place (p : Pos) (q : Partial) (s : State) (h : s.conf.site ≠ none) (hn : s.train.state = .noTrain)
    (hq : 1 ≤ q.ordinal) : ((trainTakesAxle q s).newEntry q.ordinal).place p q = axleEntry p q s := by
  rw [trainTakesAxle_opens q s h hn, axleEntry, ← axleStanding_contributing q s hq]
  rfl

theorem updatePeer_other {p x : Pos} (g : RosterEntry → RosterEntry) (r : Vector RosterEntry 8) (h : x ≠ p) :
    (updatePeer p g r)[x] = r[x] := by
  rw [updatePeer, Fin.getElem_fin, Vector.getElem_set_ne _ _ fun n => h (Fin.ext n.symm)]
  rfl

/-- The frame's sender is in the entry whatever the Roster holds of it (R95), so the Roster may take the frame first or
last (R83). -/
theorem axleEntry_roster (f : RxFrame) (q : Partial) (s : State) :
    axleEntry f.position q (rosterTake .axle f s) = axleEntry f.position q s := by
  unfold axleEntry
  congr 1
  ext i hi
  by_cases hp : i = f.position.val
  · simp [hp]
  · have hx : (⟨i, hi⟩ : Pos) ≠ f.position := fun n => hp (congrArg Fin.val n)
    rw [Vector.getElem_set_ne _ _ (Ne.symm hp), Vector.getElem_set_ne _ _ (Ne.symm hp), Vector.getElem_ofFn,
      Vector.getElem_ofFn, rosterTake, updatePeer_other _ _ hx]
    rfl

section Opening
variable (f : RxFrame) (s : State) (h : s.conf.site ≠ none) (hn : s.train.state = .noTrain)
include h hn

theorem trainTakesAxle_takes (q : Partial) : (trainTakesAxle q s).takes q.dir := by
  rw [trainTakesAxle_opens q s h hn]
  exact ⟨h, rfl, rfl⟩

theorem takeAxleFrame_zero (hq : (readAxle f.payload).ordinal = 0) :
    takeAxleFrame f s = openedByAxle (readAxle f.payload) s := by
  have ht := trainTakesAxle_takes s h hn (readAxle f.payload)
  rw [takeAxleFrame_eq]
  rw [trainTakesAxle_opens _ s h hn] at ht ⊢
  rw [takeContribution_late _ _ _ ht (by simp [openedByAxle, hq])]
  simp only [openedByAxle, hq]

variable (hf : s.table.slots = Vector.replicate 16 .free) (hq : 1 ≤ (readAxle f.payload).ordinal)
include hf hq

/-- The frame that opens a train is its first contribution, stored in slot 0 (R94, R159). -/
theorem takeAxleFrame_stores : takeAxleFrame f s =
    storeAt 0 ((trainTakesAxle (readAxle f.payload) s).newEntry (readAxle f.payload).ordinal) f.position
      (readAxle f.payload) (openedByAxle (readAxle f.payload) s) := by
  have ht := trainTakesAxle_takes s h hn (readAxle f.payload)
  rw [takeAxleFrame_eq, takeContribution_eq _ _ _ ht]
  have hopen := trainTakesAxle_opens (readAxle f.payload) s h hn
  have hnext : (trainTakesAxle (readAxle f.payload) s).table.nextExpected = (readAxle f.payload).ordinal := by
    rw [hopen]
    exact max_eq_right hq
  rw [if_neg (by omega), forceAdvance_done _ _ _ (by omega), storeInWindow_empty _ _ _ (by rw [hopen]; exact hf)]
  congr 1
  rw [hopen, openedByAxle, Nat.zero_max]

theorem takeAxleFrame_waits (hw : (axleEntry f.position (readAxle f.payload) s).awaitedList ≠ []) :
    takeAxleFrame f s =
      (let q := readAxle f.payload
       let c := axleEntry f.position q s
       { openedByAxle q s with table := { (openedByAxle q s).table with
          slots := s.table.slots.set 0 (.opened c (s.tick + BitVec.ofNat 32
            (deadlineTicks s.conf.straps.length c.awaitedList.length q.speed))) } }) := by
  have hc := newEntry_place f.position (readAxle f.payload) s h hn hq
  rw [takeAxleFrame_stores f s h hn hf hq, storeAt_waiting _ _ _ _ _ (by rw [hc]; exact hw), hc]
  rfl

theorem takeAxleFrame_decides (hw : (axleEntry f.position (readAxle f.payload) s).awaitedList = []) :
    takeAxleFrame f s = handChain (decideEntry 0 (axleEntry f.position (readAxle f.payload) s) .complete
      (openedByAxle (readAxle f.payload) s)) := by
  have hc := newEntry_place f.position (readAxle f.payload) s h hn hq
  rw [takeAxleFrame_stores f s h hn hf hq, storeAt_complete _ _ _ _ _ (by rw [hc]; exact hw), hc]

end Opening

/-! ### The forced advance in an empty table -/

theorem vector_set_other {α : Type} (v : Vector α 8) {p x : Pos} (a : α) (h : x ≠ p) : (v.set p a)[x] = v[x] := by
  rw [Fin.getElem_fin, Vector.getElem_set_ne _ _ fun n => h (Fin.ext n.symm)]
  rfl

/-- A position other than the sender that has not contributed stays awaited (R95). -/
theorem place_awaits (c : Collecting) {p x : Pos} (q : Partial) (he : c.expected[x] = true) (hc : c.contribs[x] = none)
    (h : x ≠ p) : (c.place p q).awaitedList ≠ [] := by
  refine List.ne_nil_of_mem (List.mem_filter.2 ⟨List.mem_finRange x, ?_⟩)
  rw [Collecting.awaited, Collecting.place]
  dsimp only
  rw [vector_set_other _ _ h, vector_set_other _ _ h, he, hc]
  rfl

theorem newEntry_own (s : State) (a : Nat) (h : s.train.standing = .contributing) :
    (s.newEntry a).expected[s.own] = true := by
  simp [State.newEntry, State.expectedSet, h]

theorem newEntry_contribs (s : State) (a : Nat) (x : Pos) : (s.newEntry a).contribs[x] = none := by
  simp [State.newEntry]

/-- In an empty table a contribution beyond the window waits in slot 0, its window the lowest that holds it: the own
position is awaited (R81, R93, R94). -/
theorem takeContribution_empty (p : Pos) (q : Partial) (s : State) (h : s.takes q.dir) (hp : s.own ≠ p)
    (hst : s.train.standing = .contributing) (hf : s.table.slots = Vector.replicate 16 .free)
    (hq : s.table.nextExpected + 15 < q.ordinal) (hc : s.table.handedCount ≤ 65535) :
    ∃ c e, (takeContribution p q s).table = { s.table with
        nextExpected := q.ordinal - 15
        handedCount := min (s.table.handedCount + (q.ordinal - 15 - s.table.nextExpected)) 65535
        highestOpened := max s.table.highestOpened q.ordinal
        slots := s.table.slots.set 0 (.opened c e) } ∧
      c.ordinal = q.ordinal ∧ c.contribs = (Vector.replicate 8 none).set p (some q) := by
  obtain ⟨l, pb, o, oc, x, hx⟩ := forceAdvance_empty (q.ordinal - s.table.nextExpected - 15) q.ordinal s hf hc (by omega)
  have hnext : s.table.nextExpected + (q.ordinal - s.table.nextExpected - 15) = q.ordinal - 15 := by omega
  have hcount : q.ordinal - s.table.nextExpected - 15 = q.ordinal - 15 - s.table.nextExpected := by omega
  rw [takeContribution_eq p q s h, if_neg (by omega), hx, storeInWindow_empty _ _ _ (by exact hf), storeAt_waiting,
    hnext, hcount]
  · exact ⟨_, _, rfl, rfl, rfl⟩
  · exact place_awaits _ q (newEntry_own _ _ hst) (newEntry_contribs _ _ _) hp

/-! ### AXLE_FRAME -/

theorem own_ne_of_accepts_axle (s : State) (f : RxFrame) (ha : s.accepts .axle f) : s.own ≠ f.position :=
  fun n => (ha.2.2 (by decide)).2 n.symm

/-- AXLE_FRAME in RUNNING (R72, R159). -/
theorem axleFrame_running (s : State) (f : RxFrame) (hs : s.strapFault = false) (hl : s.listening)
    (ha : s.accepts .axle f) (hsite : s.conf.site ≠ none) (hr : s.train.state = .running) :
    exec (.axleFrame f) s = .next
      (if f.rosterLast = true then rosterTake .axle f (takeContribution f.position (readAxle f.payload)
        (restartClose s.delivered))
      else takeContribution f.position (readAxle f.payload) (restartClose (rosterTake .axle f s.delivered))) := by
  rw [axleFrame_accepted s f hs hl ha, deliverStation_last, takeAxleFrame_eq, takeAxleFrame_eq,
    trainTakesAxle_running _ s.delivered hsite hr, trainTakesAxle_running _ (rosterTake .axle f s.delivered) hsite hr]

/-- AXLE_FRAME that opens a train (R159). -/
theorem axleFrame_opens (s : State) (f : RxFrame) (hs : s.strapFault = false) (hl : s.listening)
    (ha : s.accepts .axle f) (hsite : s.conf.site ≠ none) (hn : s.train.state = .noTrain)
    (hfree : s.table.slots = Vector.replicate 16 .free) :
    let q := readAxle f.payload
    let c := axleEntry f.position q s
    let opened := openedByAxle q
    let u := rosterTake .axle f s.delivered
    (q.ordinal = 0 → exec (.axleFrame f) s = .next (opened u)) ∧
    (1 ≤ q.ordinal → c.awaitedList ≠ [] → exec (.axleFrame f) s = .next
      { opened u with table := { (opened u).table with
          slots := s.table.slots.set 0 (.opened c (s.tick + BitVec.ofNat 32
            (deadlineTicks s.conf.straps.length c.awaitedList.length q.speed))) } }) ∧
    (1 ≤ q.ordinal → c.awaitedList = [] → exec (.axleFrame f) s = .next
      (if f.rosterLast = true then rosterTake .axle f (handChain (decideEntry 0 c .complete (opened s.delivered)))
       else handChain (decideEntry 0 c .complete (opened u)))) := by
  intro q c opened u
  have hx := axleFrame_accepted s f hs hl ha
  have hd : axleEntry f.position q s.delivered = c := rfl
  have hu : axleEntry f.position q u = c := axleEntry_roster f q s.delivered
  refine ⟨fun hq => ?_, fun hq hw => ?_, fun hq hw => ?_⟩
  · have hzero := fun t hsite hn => takeAxleFrame_zero f t hsite hn hq
    rw [hx, deliverStation_eq, hzero u hsite hn]
    rw [hzero s.delivered hsite hn, hzero u hsite hn]
    rfl
  · have hlast := takeAxleFrame_waits f s.delivered hsite hn hfree hq (hd ▸ hw)
    have hfirst := takeAxleFrame_waits f u hsite hn hfree hq (hu ▸ hw)
    dsimp only at hlast hfirst
    rw [hx, deliverStation_eq, hfirst, hu]
    · rfl
    · rw [hlast, hfirst, hu, hd]
      rfl
  · rw [hx, deliverStation_last, takeAxleFrame_decides f s.delivered hsite hn hfree hq (hd ▸ hw),
      takeAxleFrame_decides f u hsite hn hfree hq (hu ▸ hw), hu, hd]

/-- AXLE_FRAME far beyond an empty table's window (R93). -/
theorem axleFrame_empty (s : State) (f : RxFrame) (hs : s.strapFault = false) (hl : s.listening)
    (ha : s.accepts .axle f) (hsite : s.conf.site ≠ none) (hr : s.train.state = .running)
    (hst : s.train.standing = .contributing) (hf : s.table.slots = Vector.replicate 16 .free) :
    let q := readAxle f.payload
    q.dir = s.train.dir → s.table.nextExpected + 15 < q.ordinal → s.table.handedCount ≤ 65535 →
    ∃ t c e, exec (.axleFrame f) s = .next t ∧ t.table = { s.table with
        nextExpected := q.ordinal - 15
        handedCount := min (s.table.handedCount + (q.ordinal - 15 - s.table.nextExpected)) 65535
        highestOpened := max s.table.highestOpened q.ordinal
        slots := s.table.slots.set 0 (.opened c e) } ∧
      c.ordinal = q.ordinal ∧ c.contribs = (Vector.replicate 8 none).set f.position (some q) := by
  intro q hd hq hc
  have hp := own_ne_of_accepts_axle s f ha
  rw [axleFrame_running s f hs hl ha hsite hr]
  split
  · obtain ⟨c, e, ht, hc⟩ := takeContribution_empty f.position q (restartClose s.delivered) ⟨hsite, hr, hd⟩ hp hst hf hq hc
    exact ⟨_, c, e, rfl, ht, hc⟩
  · obtain ⟨c, e, ht, hc⟩ := takeContribution_empty f.position q (restartClose (rosterTake .axle f s.delivered))
      ⟨hsite, hr, hd⟩ hp hst hf hq hc
    exact ⟨_, c, e, rfl, ht, hc⟩

/-! ### One round of the forced advance -/

theorem advanceOnce_hole (s : State) (h : slotOf s.table.slots s.table.nextExpected = none) : advanceOnce s =
    handChain (takeAxle (holeAxle s.table.nextExpected true) { s with table := s.table.raised }) := by
  rw [advanceOnce, forcedStep_none s h, handAxle_eq]

theorem advanceOnce_opened (s : State) {i : Fin 16} {c : Collecting} {e : Tick}
    (h : slotOf s.table.slots s.table.nextExpected = some i) (hi : s.table.slots[i] = .opened c e) : advanceOnce s =
    handChain (takeAxle (decideAxle s.decisionSettings c .forced) { decideEntry i c .forced s with
      table := { s.table.raised with slots := s.table.slots.set i .free
                                     latestSpeed := some (decideAxle s.decisionSettings c .forced).speed } }) := by
  rw [advanceOnce, forcedStep_opened s h hi, handEntry_eq, decideEntry_table]
  dsimp only [ConsensusTable.raised]
  rw [Vector.set_set]

/-- Settles O57: the opening, the forced advance in an empty table, the frame in RUNNING, one forced round. -/
theorem axleOpensAndForces : Obligations.AxleOpensAndForces := by
  refine ⟨?_, ?_, ?_, ?_⟩
  · intro s f hs hl ha hsite hn hfree
    exact axleFrame_opens s f hs hl ha hsite hn (slots_eq_free hfree)
  · intro s f hs hl ha hsite hr hst hfree q hd hq hc
    obtain ⟨t, c, e, hx, ht, ho, hcs⟩ := axleFrame_empty s f hs hl ha hsite hr hst (slots_eq_free hfree) hd hq hc
    refine ⟨t, c, e, hx, ?_⟩
    rw [ht, hcs]
    refine ⟨rfl, rfl, rfl, by simp, ho, by simp [q], fun x hx => ?_, fun i hi => ?_⟩
    · rw [vector_set_other _ _ hx]
      simp
    · exact (Vector.getElem_set_ne (by decide) i.isLt fun n => hi (Fin.ext n.symm)).trans (hfree i)
  · intro s f hs hl ha hsite hr
    exact axleFrame_running s f hs hl ha hsite hr
  · intro s p q hsite hr hd hq hw raised
    have hforced := takeContribution_forced p q s ⟨hsite, hr, hd⟩ hq hw
    refine ⟨fun hnone => ?_, fun i c e hi hc => ⟨rfl, ?_⟩⟩
    · rw [hforced, advanceOnce_hole s hnone]
      rfl
    · rw [hforced, advanceOnce_opened s hi hc]
      rfl

end Sys2Proof.Machine
end

section
/-! The close of a train. -/

namespace Sys2Proof.Machine

/-! ### AXLE frames in the transmit queue -/

/-- The attempt stays, and every AXLE frame of `m`'s queue was in `l`'s. -/
def NoNewAxle (l m : LinkControl) : Prop :=
  m.attempt = l.attempt ∧ ∀ f ∈ m.queue, f.kind = .axle → f ∈ l.queue

theorem NoNewAxle.refl (l : LinkControl) : NoNewAxle l l := ⟨rfl, fun _ h _ => h⟩

theorem NoNewAxle.trans {l m n : LinkControl} (h : NoNewAxle l m) (g : NoNewAxle m n) : NoNewAxle l n :=
  ⟨g.1.trans h.1, fun f hf hk => h.2 f (g.2 f hf hk) hk⟩

theorem removeFrame_noNewAxle (id : Nat) (l : LinkControl) : NoNewAxle l (removeFrame id l) :=
  ⟨rfl, fun _ hf _ => List.mem_of_mem_filter hf⟩

theorem enqueue_noNewAxle {k : Kind} (seq : BitVec 6) (payload : List Byte) (l : LinkControl) (h : k ≠ .axle) :
    NoNewAxle l (enqueue k seq payload l) := by
  refine ⟨rfl, fun f hf hk => ?_⟩
  rcases List.mem_append.1 hf with hf | hf
  · exact hf
  · rw [List.mem_singleton.1 hf] at hk
    exact absurd hk h

theorem cancelFrame_noNewAxle (id : Nat) (s : State) : NoNewAxle s.link (cancelFrame id s).link := by
  unfold cancelFrame
  split
  · split
    · exact NoNewAxle.refl _
    · exact removeFrame_noNewAxle id s.link
  · exact NoNewAxle.refl _

/-- A frame whose cancellation has been asked for stays queued only while it is in attempt (R75). -/
theorem cancelFrame_gone (id : Nat) (s : State) {f : QFrame} (hf : f ∈ (cancelFrame id s).link.queue) (h : f.id = id) :
    s.link.attempt = some id := by
  unfold cancelFrame at hf
  split at hf
  · split at hf
    · assumption
    · simp [removeFrame, h] at hf
  · rename_i hn
    exact absurd (by simpa using ⟨f, hf, h⟩) hn

theorem cancelFrame_subset (id : Nat) (s : State) : (cancelFrame id s).link.queue ⊆ s.link.queue := by
  unfold cancelFrame
  split
  · split
    · exact List.Subset.refl _
    · exact List.filter_subset_self _
  · exact List.Subset.refl _

theorem foldCancel_subset (ids : List Nat) (s : State) :
    (ids.foldl (fun s id => cancelFrame id s) s).link.queue ⊆ s.link.queue := by
  induction ids generalizing s with
  | nil => exact List.Subset.refl _
  | cons id ids ih => exact List.Subset.trans (ih _) (cancelFrame_subset id s)

theorem foldCancel_attempt (ids : List Nat) (s : State) :
    (ids.foldl (fun s id => cancelFrame id s) s).link.attempt = s.link.attempt := by
  induction ids generalizing s with
  | nil => rfl
  | cons id ids ih => exact (ih _).trans (cancelFrame_noNewAxle id s).1

theorem foldCancel_gone (ids : List Nat) (s : State) {f : QFrame}
    (hf : f ∈ (ids.foldl (fun s id => cancelFrame id s) s).link.queue) (h : f.id ∈ ids) :
    s.link.attempt = some f.id := by
  induction ids generalizing s with
  | nil => exact absurd h (by simp)
  | cons id ids ih =>
    rcases List.mem_cons.1 h with h | h
    · exact h ▸ cancelFrame_gone id s (foldCancel_subset ids _ hf) h
    · exact (cancelFrame_noNewAxle id s).1.symm.trans (ih _ hf h)

theorem cancelAxles_noNewAxle (s : State) : NoNewAxle s.link (cancelAxles s).link :=
  ⟨foldCancel_attempt _ s, fun _ hf _ => foldCancel_subset _ s hf⟩

/-- Of the AXLE frames only one in attempt stays queued when all are cancelled (R59, R75). -/
theorem cancelAxles_gone (s : State) {f : QFrame} (hf : f ∈ (cancelAxles s).link.queue) (hk : f.kind = .axle) :
    s.link.attempt = some f.id :=
  foldCancel_gone _ s hf (List.mem_map_of_mem (List.mem_filter.2 ⟨foldCancel_subset _ s hf, beq_iff_eq.2 hk⟩))

/-! ### Operations that queue no AXLE frame -/

theorem offer_noNewAxle {k : Kind} (seq : BitVec 6) (payload : List Byte) (s : State) (h : k ≠ .axle) :
    NoNewAxle s.link (offer k seq payload s).1.link := by
  unfold offer
  split
  · exact enqueue_noNewAxle seq payload s.link h
  · split
    · exact NoNewAxle.refl _
    · dsimp only
      rw [notify_link]
      exact (removeFrame_noNewAxle _ s.link).trans (enqueue_noNewAxle seq payload _ h)

theorem dissentFrom_noNewAxle (v : Nat) (r : VehicleRecord) (peer : PeerRecord) (s : State) :
    NoNewAxle s.link (dissentFrom v r peer s).link := by
  have h := offer_noNewAxle (k := .dissent) (seqOf r.ordinal) (dissentPayload r peer.sender) s (by decide)
  unfold dissentFrom offerDissent
  split
  all_goals
    rename_i heq
    rwa [heq] at h

theorem ownRecordNew_noNewAxle (r : VehicleRecord) (s : State) : NoNewAxle s.link (ownRecordNew r s).link := by
  have h := offer_noNewAxle (k := .vehicle) (seqOf r.ordinal) (vehiclePayload r)
    { s with pub := createPub ⟨r.ordinal, .dropped r none⟩ s.pub } (by decide)
  unfold ownRecordNew offerVehicle
  dsimp only
  split
  all_goals
    rename_i heq
    rwa [heq] at h

theorem takeOwnRecord_noNewAxle (r : VehicleRecord) (s : State) : NoNewAxle s.link (takeOwnRecord r s).link := by
  unfold takeOwnRecord
  split
  · exact ownRecordNew_noNewAxle r s
  · split
    · split
      · exact NoNewAxle.refl _
      · exact dissentFrom_noNewAxle _ _ _ s
    all_goals exact NoNewAxle.refl _

theorem closeVehicle_noNewAxle (closing : VehicleFlags) (s : State) : NoNewAxle s.link (closeVehicle closing s).link := by
  unfold closeVehicle
  split
  · exact NoNewAxle.refl _
  · exact takeOwnRecord_noNewAxle _ _

theorem appendAxle_noNewAxle (v : OpenVehicle) (g : List Nat) (u : Bool) (a : VehicleAxle) (s : State) :
    NoNewAxle s.link (appendAxle v g u a s).link := by
  unfold appendAxle
  dsimp only
  split
  · exact closeVehicle_noNewAxle _ _
  · exact NoNewAxle.refl _

theorem splitAt_noNewAxle (a : VehicleAxle) (s : State) : NoNewAxle s.link (splitAt a s).link :=
  closeVehicle_noNewAxle _ s

theorem takeAxle_noNewAxle (a : ConsensusAxle) (s : State) : NoNewAxle s.link (takeAxle a s).link := by
  unfold takeAxle
  dsimp only
  split
  · exact NoNewAxle.refl _
  · split
    · unfold takeBogie
      split
      · exact appendAxle_noNewAxle _ _ _ _ s
      · split
        · exact appendAxle_noNewAxle _ _ _ _ s
        · exact splitAt_noNewAxle _ s
    · unfold takeBody
      split
      · exact appendAxle_noNewAxle _ _ _ _ s
      · exact splitAt_noNewAxle _ s
    · exact closeVehicle_noNewAxle _ s
    · exact closeVehicle_noNewAxle _ s

theorem takeOwnSlip_noNewAxle (r : Option Bool) (s : State) : NoNewAxle s.link (takeOwnSlip r s).link := by
  unfold takeOwnSlip
  split
  · exact NoNewAxle.refl _
  · split
    · split
      · split
        · exact NoNewAxle.refl _
        · exact cancelAxles_noNewAxle { s with train := { s.train with slips := 3, standing := .desync } }
      · exact NoNewAxle.refl _
    · exact NoNewAxle.refl _

theorem decideEntry_noNewAxle (i : Fin 16) (c : Collecting) (t : Trigger) (s : State) :
    NoNewAxle s.link (decideEntry i c t s).link := takeOwnSlip_noNewAxle _ _

theorem handAxle_noNewAxle (a : ConsensusAxle) (s : State) : NoNewAxle s.link (handAxle a s).link :=
  takeAxle_noNewAxle a _

theorem handEntry_noNewAxle (i : Fin 16) (a : ConsensusAxle) (s : State) : NoNewAxle s.link (handEntry i a s).link :=
  takeAxle_noNewAxle a _

theorem forcedStep_noNewAxle (s : State) : NoNewAxle s.link (forcedStep s).link := by
  unfold forcedStep
  split
  · exact handAxle_noNewAxle _ s
  · split
    · exact (decideEntry_noNewAxle _ _ _ s).trans (handEntry_noNewAxle _ _ _)
    · exact handEntry_noNewAxle _ _ s
    · exact NoNewAxle.refl _

theorem handUpTo_noNewAxle (n last : Nat) (s : State) : NoNewAxle s.link (handUpTo n last s).link := by
  induction n generalizing s with
  | zero => exact NoNewAxle.refl _
  | succ n ih =>
    unfold handUpTo
    split
    · exact (forcedStep_noNewAxle s).trans (ih _)
    · exact NoNewAxle.refl _

/-! ### The flush -/

/-- A count held at its greatest value may be held once at the end. -/
theorem count_held (a n k : Nat) : min (min (a + 1) k + n) k = min (a + (n + 1)) k := by omega

/-- The flush hands every ordinal up to `last` (R104). -/
theorem handUpTo_nextExpected (n last : Nat) (s : State) (h : n = last + 1 - s.table.nextExpected) :
    (handUpTo n last s).table.nextExpected = s.table.nextExpected + n := by
  induction n generalizing s with
  | zero => rfl
  | succ n ih =>
    have hn := forcedStep_nextExpected s
    rw [handUpTo, if_pos (by omega), ih _ (by omega), hn]
    omega

theorem handUpTo_handedCount (n last : Nat) (s : State) (h : n = last + 1 - s.table.nextExpected)
    (hc : s.table.handedCount ≤ 65535) :
    (handUpTo n last s).table.handedCount = min (s.table.handedCount + n) 65535 := by
  induction n generalizing s with
  | zero => exact (min_eq_left hc).symm
  | succ n ih =>
    have hn := forcedStep_nextExpected s
    have hh := forcedStep_handedCount s
    rw [handUpTo, if_pos (by omega), ih _ (by omega) (by rw [hh]; exact Nat.min_le_right _ _), hh, count_held]

theorem closeVehicle_vehicle (closing : VehicleFlags) (s : State) : (closeVehicle closing s).asm.vehicle = none := by
  unfold closeVehicle
  split
  · assumption
  · obtain ⟨l, p, o, c, h⟩ := takeOwnRecord_frame (recordOf s.train.number closing ‹_›)
      { s with asm := { s.asm with vehicle := none } }
    rw [h]

end Sys2Proof.Machine
end

section
/-! CLOSE_TIMER_EXPIRY. -/

namespace Sys2Proof.Machine

/-! ### The close record and the TRAIN-CLOSE -/

/-- A peer's TRAIN-CLOSE has matched the close record (R162). -/
def State.closeAnswered (s : State) : Prop :=
  ∃ f, s.train.peerClose = some f ∧ f.ordinal = s.table.handedCount ∧ f.vehicles = s.asm.counter

theorem closeMatches_any (s : State) :
    (s.train.peerClose.any fun f => closeMatches f s.closeRecord) = true ↔ s.closeAnswered := by
  unfold State.closeAnswered
  cases s.train.peerClose with
  | none => simp
  | some f => simp [closeMatches, State.closeRecord]

/-- The payload of the own TRAIN-CLOSE (R177). -/
def closePayload (s : State) : List Byte :=
  trainPayload trainCloseSubtype s.train.dir s.train.number s.table.handedCount s.asm.counter
    (s.train.state == .abandoned) (s.train.standing == .desync)

theorem closePayload_eq (s : State) : closePayload s =
    [3, if s.train.dir = .up then 0 else 1, s.train.number,
      BitVec.ofNat 8 (s.table.handedCount / 256), BitVec.ofNat 8 s.table.handedCount,
      BitVec.ofNat 8 (s.asm.counter / 256), BitVec.ofNat 8 s.asm.counter,
      (if s.train.state = .abandoned then 1 else 0) + (if s.train.standing = .desync then 2 else 0)] := by
  unfold closePayload trainPayload
  cases s.train.dir <;> cases s.train.state <;> cases s.train.standing <;> rfl

/-- The offer of the own TRAIN-CLOSE (R162). -/
def offerClose (s : State) : State × Option Nat := offer .train (seqOf s.train.number.toNat) (closePayload s) s

theorem offerClose_eq (s : State) : offerClose s =
    ({ s with link := offeredLink .train (seqOf s.train.number.toNat) (closePayload s) s.link
              pub := tellDropped (displaced .train s.link) s.pub }, offeredId .train s.link) :=
  offer_eq .train _ _ s le_rfl

theorem formClose_withheld (s : State) (h : s.closeAnswered) :
    formClose s = { s with train := { s.train with ownClose := some s.closeRecord } } :=
  if_pos ((closeMatches_any s).2 h)

theorem formClose_offers (s : State) (h : ¬ s.closeAnswered) : formClose s =
    { s with link := (offerClose s).1.link, pub := (offerClose s).1.pub
             train := { s.train with ownClose := some s.closeRecord, closeFrame := (offerClose s).2 } } := by
  have hn : ¬ (s.train.peerClose.any fun f => closeMatches f s.closeRecord) = true := mt (closeMatches_any s).1 h
  rw [formClose]
  dsimp only
  rw [if_neg hn, offerTrain_eq, offerClose_eq]
  rfl

/-! ### The six steps -/

/-- The Rate Controller after the request for QUIET (R6, R8). -/
def quietRate (now : Tick) (site : Option Site) (rc : RateControl) : RateControl :=
  if rc.rate = .active then { rc with rate := .quiet, quietTimer := quietTimerOf now site } else rc

theorem requestQuiet_eq (s : State) : requestQuiet s = { s with rc := quietRate s.tick s.conf.site s.rc } := by
  unfold quietRate
  split
  · rename_i h
    rw [requestQuiet_active s h, quietTimer_eq]
  · rename_i h
    exact requestQuiet_inactive s h

/-- The station that a close leaves, `w` holding what its flush left (R161). -/
def closedAs (w : State) : State :=
  { w with
    link := (formClose w).link
    pub := (formClose w).pub
    train := { (formClose w).train with state := .noTrain, closeTimer := none }
    roster := w.roster.map releaseEntry
    wheel := { w.wheel with counter := 0, prev := none }
    rc := quietRate w.tick w.conf.site w.rc }

theorem formClose_rest (s : State) : formClose s =
    { s with link := (formClose s).link, pub := (formClose s).pub, train := (formClose s).train } := by
  by_cases h : s.closeAnswered
  · rw [formClose_withheld s h]
  · rw [formClose_offers s h]

/-- The station whose train closes, its dwell discarded and its AXLE frames cancelled (R161). -/
def closeBegun (s : State) : State := cancelAxles (discardDwell s)

theorem closeTrain_eq (s : State) : closeTrain s = closedAs (closeFlush s.highestKnown (closeBegun s)) := by
  rw [closeTrain]
  dsimp only
  rw [requestQuiet_eq, formClose_rest]
  rfl

theorem formClose_noNewAxle (s : State) : NoNewAxle s.link (formClose s).link := by
  by_cases h : s.closeAnswered
  · rw [formClose_withheld s h]
    exact NoNewAxle.refl _
  · rw [formClose_offers s h]
    exact offer_noNewAxle _ _ s (by decide)

theorem closeFlush_noNewAxle (n : Nat) (s : State) : NoNewAxle s.link (closeFlush n s).link := by
  unfold closeFlush
  split
  · exact (handUpTo_noNewAxle _ n s).trans (closeVehicle_noNewAxle _ _)
  all_goals exact NoNewAxle.refl _

/-- After a close only an AXLE frame in attempt is queued (R59, R75). -/
theorem closedAs_axles (s : State) (n : Nat) {f : QFrame} (hf : f ∈ (closedAs (closeFlush n (closeBegun s))).link.queue)
    (hk : f.kind = .axle) : s.link.attempt = some f.id :=
  cancelAxles_gone (discardDwell s) (((closeFlush_noNewAxle n _).trans (formClose_noNewAxle _)).2 f hf hk) hk

theorem closeBegun_eq (s : State) : ∃ l, closeBegun s =
    { s with wheel := { s.wheel with dwell := none }, pass := { s.pass with buffer := [], snapshot := none }, link := l } :=
  cancelAxles_frame _

theorem closeFlush_running (n : Nat) (s : State) (h : s.train.state = .running) :
    closeFlush n s = closeVehicle { last := true } (flushTo n s) := by
  unfold closeFlush
  rw [h]

theorem closeFlush_idle (n : Nat) (s : State) (h : s.train.state ≠ .running) : closeFlush n s = s := by
  unfold closeFlush
  split
  · contradiction
  all_goals rfl

theorem highestKnown_eq (s : State) : s.highestKnown =
    max s.table.highestOpened (if s.train.standing = .contributing then s.wheel.counter else 0) := by
  simp [State.highestKnown]

theorem releaseEntry_eq (e : RosterEntry) : releaseEntry e =
    if e.state = .desync then { e with state := .live, misses := 0, slips := 0 } else { e with slips := 0 } := by
  unfold releaseEntry
  cases h : e.state <;> simp

/-- What a flush that closes in RUNNING leaves of the Consensus Table's counts and of the open vehicle (R102, R104,
R134). -/
theorem closeFlush_counts (n : Nat) (s : State) (h : s.train.state = .running) :
    (closeFlush n s).table.nextExpected = max s.table.nextExpected (n + 1) ∧
    (s.table.handedCount ≤ 65535 → (closeFlush n s).table.handedCount =
      min (s.table.handedCount + (n + 1 - s.table.nextExpected)) 65535) ∧ (closeFlush n s).asm.vehicle = none := by
  rw [closeFlush_running n s h, closeVehicle_table, flushTo]
  refine ⟨?_, fun hc => handUpTo_handedCount _ n s rfl hc, closeVehicle_vehicle _ _⟩
  rw [handUpTo_nextExpected _ n s rfl]
  omega

theorem closeTimerExpiry_closes (s : State) (e : Tick) (hs : s.strapFault = false) (ht : s.train.closeTimer = some e)
    (h : s.train.state ≠ .noTrain) (hd : s.reached e) : exec .closeTimerExpiry s =
      .next (closedAs (closeFlush s.highestKnown (closeBegun s))) := by
  rw [show exec .closeTimerExpiry s = .next (closeTimerExpiry s) from inService_next _ s hs, closeTimerExpiry,
    if_pos (by simp [(trainHeld_iff s).2 h, (timerDue_some s ht).2 hd]), closeTrain_eq]

theorem closeTimerExpiry_notDue (s : State) (e : Tick) (hs : s.strapFault = false) (ht : s.train.closeTimer = some e)
    (hd : ¬ s.reached e) : exec .closeTimerExpiry s = .next s := by
  rw [show exec .closeTimerExpiry s = .next (closeTimerExpiry s) from inService_next _ s hs, closeTimerExpiry,
    if_neg (by simp [mt (timerDue_some s ht).1 hd])]

theorem formClose_train (s : State) : (formClose s).train.number = s.train.number ∧
    (formClose s).train.dir = s.train.dir ∧ (formClose s).train.peerClose = s.train.peerClose := by
  by_cases h : s.closeAnswered
  · rw [formClose_withheld s h]
    exact ⟨rfl, rfl, rfl⟩
  · rw [formClose_offers s h]
    exact ⟨rfl, rfl, rfl⟩

/-- What the close of `s` keeps, `w` holding what its flush left (R36, R161). -/
structure CloseKeeps (s w : State) : Prop where
  flushed : w.train.state = s.train.state ∧ w.train.number = s.train.number ∧ w.train.dir = s.train.dir ∧
    w.train.peerClose = s.train.peerClose
  number : (closedAs w).train.number = s.train.number
  dir : (closedAs w).train.dir = s.train.dir
  peerClose : (closedAs w).train.peerClose = s.train.peerClose
  wheel : (closedAs w).wheel = { s.wheel with counter := 0, prev := none, dwell := none }
  pass : (closedAs w).pass = { s.pass with buffer := [], snapshot := none }
  rc : (closedAs w).rc = quietRate s.tick s.conf.site s.rc
  fe : (closedAs w).fe = s.fe
  zero : (closedAs w).zero = s.zero
  conf : (closedAs w).conf = s.conf
  tick : (closedAs w).tick = s.tick
  pending : (closedAs w).pending = s.pending

theorem closeKeeps (s w : State) (h : TableFrame (closeBegun s) w) : CloseKeeps s w := by
  obtain ⟨l, hl⟩ := closeBegun_eq s
  obtain ⟨hnum, hdir, hpeer⟩ := formClose_train w
  rw [hl] at h
  obtain ⟨_, _, _, _, _, _, _, _, _, rfl⟩ := h
  exact
    { flushed := ⟨rfl, rfl, rfl, rfl⟩
      number := hnum
      dir := hdir
      peerClose := hpeer
      wheel := rfl, pass := rfl, rc := rfl, fe := rfl, zero := rfl, conf := rfl, tick := rfl, pending := rfl }

/-- The state after the flush, as the obligation writes it (R104, R106, R134). -/
theorem closeFlush_eq (s : State) : closeFlush s.highestKnown (closeBegun s) =
    if s.train.state = .running then closeVehicle { last := true } (flushTo
      (max s.table.highestOpened (if s.train.standing = .contributing then s.wheel.counter else 0)) (closeBegun s))
    else closeBegun s := by
  obtain ⟨l, hl⟩ := closeBegun_eq s
  have hst : (closeBegun s).train.state = s.train.state := by rw [hl]
  rw [← highestKnown_eq]
  split
  · rename_i h
    exact closeFlush_running _ _ (hst.trans h)
  · rename_i h
    exact closeFlush_idle _ _ (hst ▸ h)

/-- A matched TRAIN-CLOSE is withheld (R162). -/
theorem closedAs_withheld (w : State) (h : w.closeAnswered) :
    (closedAs w).link = w.link ∧ (closedAs w).pub = w.pub ∧ (closedAs w).train =
      { w.train with state := .noTrain, closeTimer := none, ownClose := some w.closeRecord } := by
  rw [closedAs, formClose_withheld w h]
  exact ⟨rfl, rfl, rfl⟩

/-- The TRAIN-CLOSE of a close that no peer's matches (R162, R166). -/
theorem closedAs_offers (w : State) (h : ¬ w.closeAnswered) :
    (closedAs w).link = (offerClose w).1.link ∧ (closedAs w).pub = (offerClose w).1.pub ∧ (closedAs w).train =
      { w.train with
        state := .noTrain, closeTimer := none, ownClose := some w.closeRecord
        openFrame := (offerClose w).1.train.openFrame, closeFrame := (offerClose w).2 } := by
  have hopen : (offerClose w).1.train.openFrame = w.train.openFrame := by rw [offerClose_eq]
  rw [hopen, closedAs, formClose_offers w h]
  exact ⟨rfl, rfl, rfl⟩

theorem offerClose_room (w : State) (h : w.link.queue.length < 8) : offerClose w =
    ({ w with link := { w.link with
        queue := w.link.queue ++ [⟨w.link.nextId, .train, BitVec.ofNat 6 w.train.number.toNat, closePayload w⟩]
        nextId := w.link.nextId + 1 } }, some w.link.nextId) := offer_room .train _ _ w h

theorem closedAs_roster (w : State) (p : Pos) : (closedAs w).roster[p] =
    if (w.roster[p]).state = .desync then { w.roster[p] with state := .live, misses := 0, slips := 0 }
    else { w.roster[p] with slips := 0 } := by
  rw [← releaseEntry_eq]
  exact Vector.getElem_map _ _

/-- Settles O43: the close is `closedAs` of what the flush leaves. -/
theorem closeTimerCloses : Obligations.CloseTimerCloses := by
  intro s e hs ht hheld known ended w matched own payload offered
  have hw : closeFlush s.highestKnown (closeBegun s) = w := closeFlush_eq s
  have hx := closeTimerExpiry_closes s e hs ht hheld
  rw [hw] at hx
  have hk : CloseKeeps s w := closeKeeps s w (hw ▸ closeFlush_frame _ _)
  obtain ⟨hst, hnum, hdir, hpeer⟩ := hk.flushed
  have hown : w.closeRecord = own := by
    rw [State.closeRecord, hst]
  have hpay : closePayload w = payload := by
    rw [closePayload_eq, hnum, hdir, hst]
  have hoff : offerClose w = offered := by
    rw [offerClose, hpay, hnum]
    rfl
  have hmatch : matched ↔ w.closeAnswered := by
    rw [State.closeAnswered, hpeer]
  obtain ⟨l, hl⟩ := closeBegun_eq s
  have hcounts := closeFlush_counts s.highestKnown (closeBegun s)
  rw [hw, highestKnown_eq, hl] at hcounts
  refine ⟨closeTimerExpiry_notDue s e hs ht, fun hd => ⟨closedAs w, hx hd, hk.number, hk.dir, hk.peerClose, rfl, rfl, rfl,
    fun hm => ?_, fun hm => ?_, fun hq => ?_, fun hr => ?_, hk.wheel, hk.pass, fun hr => (hcounts hr).2.2,
    fun f hf hkind => ?_, closedAs_roster w, fun hr => ?_, fun hr => ?_, fun ha => ?_, hk.fe, hk.zero, hk.conf, hk.tick,
    hk.pending⟩⟩
  · rw [← hown]
    exact closedAs_withheld w (hmatch.1 hm)
  · rw [← hown, ← hoff]
    exact closedAs_offers w (mt hmatch.2 hm)
  · rw [← hoff, offerClose_room w hq, hpay, hnum]
  · exact ⟨(hcounts hr).1, (hcounts hr).2.1⟩
  · rw [← hw] at hf
    exact closedAs_axles s _ hf hkind
  · rw [hk.rc, quietRate, if_pos hr]
    rfl
  · rw [hk.rc, quietRate, if_neg hr]
  · have hidle : w = closeBegun s := if_neg (by rw [ha]; decide)
    rw [hidle, hl]
    exact ⟨rfl, rfl, rfl⟩

end Sys2Proof.Machine
end

section
/-! The Consensus Table's form, and when a hand-over is due. -/

namespace Sys2Proof.Machine

/-! ### Slots read and written -/

theorem slot_set_same (slots : Vector Slot 16) (i : Fin 16) (sl : Slot) : (slots.set i sl)[i] = sl := by simp

theorem slot_set_other (slots : Vector Slot 16) {i j : Fin 16} (sl : Slot) (h : j ≠ i) :
    (slots.set i sl)[j] = slots[j] := by
  rw [Fin.getElem_fin, Vector.getElem_set_ne _ _ fun n => h (Fin.ext n.symm)]
  rfl

theorem slotOf_eq_none {slots : Vector Slot 16} {a : Nat} :
    slotOf slots a = none ↔ ∀ j : Fin 16, (slots[j]).ordinal? ≠ some a := by
  simp [slotOf, List.find?_eq_none]

theorem mem_decidedOrdinals_iff {slots : Vector Slot 16} {o : Nat} :
    o ∈ decidedOrdinals slots ↔ ∃ i : Fin 16, (slots[i]).decidedOrdinal? = some o := by
  simp only [decidedOrdinals, List.mem_filterMap, Vector.mem_toList_iff, Vector.mem_iff_getElem]
  constructor
  · rintro ⟨_, ⟨i, hi, rfl⟩, ho⟩
    exact ⟨⟨i, hi⟩, ho⟩
  · rintro ⟨i, ho⟩
    exact ⟨_, ⟨i.val, i.isLt, rfl⟩, ho⟩

theorem le_maxOf {l : List Nat} {o : Nat} (h : o ∈ l) : o ≤ maxOf l := by
  have hfold : ∀ (l : List Nat) (k : Nat), k ≤ l.foldl max k ∧ ∀ o ∈ l, o ≤ l.foldl max k := by
    intro l
    induction l with
    | nil => simp
    | cons x xs ih =>
      intro k
      obtain ⟨hk, hx⟩ := ih (max k x)
      refine ⟨(le_max_left k x).trans hk, fun o ho => ?_⟩
      rcases List.mem_cons.1 ho with rfl | ho
      · exact (le_max_right k o).trans hk
      · exact hx o ho
  exact (hfold l 0).2 o h

/-- `slots` is `old` with some entries freed. -/
def Freed (old slots : Vector Slot 16) : Prop := ∀ j : Fin 16, slots[j] = old[j] ∨ slots[j] = .free

theorem Freed.refl (slots : Vector Slot 16) : Freed slots slots := fun _ => .inl rfl

theorem freed_set (slots : Vector Slot 16) (i : Fin 16) : Freed slots (slots.set i .free) := fun j => by
  by_cases h : j = i
  · exact .inr (h ▸ slot_set_same slots i .free)
  · exact .inl (slot_set_other slots _ h)

theorem Freed.ordinal {old slots : Vector Slot 16} (h : Freed old slots) {j : Fin 16} {a : Nat}
    (ha : (slots[j]).ordinal? = some a) : (old[j]).ordinal? = some a := by
  rcases h j with g | g
  · rwa [g] at ha
  · rw [g] at ha
    cases ha

theorem Freed.decided {old slots : Vector Slot 16} (h : Freed old slots) {o : Nat} (ho : o ∈ decidedOrdinals slots) :
    o ∈ decidedOrdinals old := by
  obtain ⟨j, hj⟩ := mem_decidedOrdinals_iff.1 ho
  refine mem_decidedOrdinals_iff.2 ⟨j, ?_⟩
  rcases h j with g | g
  · rwa [g] at hj
  · rw [g] at hj
    cases hj

/-! ### The invariant of the table alone -/

/-- What `TableInv` says of one slot (R88, R98, R100). -/
def SlotWf (sl : Slot) : Prop :=
  match sl with
  | .free => True
  | .opened c _ => EntryInv c ∧ c.awaitedList ≠ []
  | .decided c a => EntryInv c ∧ a.ordinal = c.ordinal

/-- The part of `TableInv` that reads the Consensus Table alone (R88, R89). -/
structure TableWf (tb : ConsensusTable) : Prop where
  next : 1 ≤ tb.nextExpected ∧ tb.nextExpected ≤ 65536
  highest : tb.highestOpened ≤ 65535
  handed : tb.handedCount ≤ 65535
  window : ∀ (i : Fin 16) (a : Nat), (tb.slots[i]).ordinal? = some a →
    tb.nextExpected ≤ a ∧ a ≤ tb.nextExpected + 15 ∧ a ≤ tb.highestOpened
  distinct : ∀ (i j : Fin 16) (a : Nat), (tb.slots[i]).ordinal? = some a → (tb.slots[j]).ordinal? = some a → i = j
  entries : ∀ i : Fin 16, SlotWf tb.slots[i]

/-- An entry for ordinal `a` may stand in slot `i`: inside the window, and no other slot holds that ordinal (R89). -/
structure ConsensusTable.Fits (tb : ConsensusTable) (i : Fin 16) (a : Nat) : Prop where
  window : tb.nextExpected ≤ a ∧ a ≤ tb.nextExpected + 15 ∧ a ≤ tb.highestOpened
  alone : ∀ j : Fin 16, j ≠ i → (tb.slots[j]).ordinal? ≠ some a

theorem TableWf.fits {tb : ConsensusTable} (h : TableWf tb) {i : Fin 16} {a : Nat}
    (ha : (tb.slots[i]).ordinal? = some a) : tb.Fits i a :=
  ⟨h.window i a ha, fun j hj g => hj (h.distinct j i a g ha)⟩

theorem TableWf.slotOf_of {tb : ConsensusTable} (h : TableWf tb) {i : Fin 16} {a : Nat}
    (ha : (tb.slots[i]).ordinal? = some a) : slotOf tb.slots a = some i := by
  cases hs : slotOf tb.slots a with
  | none => exact absurd ha (slotOf_eq_none.1 hs i)
  | some j => rw [h.distinct j i a (slotOf_ordinal hs) ha]

/-- The ordinal next_expected of an entry still to be handed leaves room for the next (R88). -/
theorem TableWf.next_le {tb : ConsensusTable} (h : TableWf tb) {i : Fin 16} {a : Nat}
    (ha : (tb.slots[i]).ordinal? = some a) : a ≤ 65535 := (h.window i a ha).2.2.trans h.highest

/-- A hand-over of next_expected, after which no slot holds it, keeps the table's form (R100, R102). -/
theorem TableWf.raise {tb : ConsensusTable} (h : TableWf tb) {slots : Vector Slot 16} (hn : tb.nextExpected ≤ 65535)
    (hf : Freed tb.slots slots) (hgone : ∀ j : Fin 16, (slots[j]).ordinal? ≠ some tb.nextExpected)
    (v : Option (Option Nat)) : TableWf { tb.raised with slots := slots, latestSpeed := v } where
  next := ⟨Nat.le_add_left _ _, Nat.succ_le_succ hn⟩
  highest := h.highest
  handed := Nat.min_le_right _ _
  window i a ha := by
    obtain ⟨hlo, hhi, hmax⟩ := h.window i a (hf.ordinal ha)
    have hne : a ≠ tb.nextExpected := fun n => hgone i (n ▸ ha)
    simp only [ConsensusTable.raised]
    omega
  distinct i j a hi hj := h.distinct i j a (hf.ordinal hi) (hf.ordinal hj)
  entries i := by
    rcases hf i with g | g
    · exact g ▸ h.entries i
    · exact g ▸ trivial

/-- An entry written where it fits keeps the table's form (R89, R94, R95, R98). -/
theorem TableWf.put {tb : ConsensusTable} (h : TableWf tb) {i : Fin 16} {a : Nat} {sl : Slot} (hf : tb.Fits i a)
    (ho : sl.ordinal? = some a) (hsl : SlotWf sl) (v : Option (Option Nat)) :
    TableWf { tb with slots := tb.slots.set i sl, latestSpeed := v } where
  next := h.next
  highest := h.highest
  handed := h.handed
  window j b hb := by
    by_cases hj : j = i
    · subst hj
      rw [slot_set_same, ho] at hb
      cases hb
      exact hf.window
    · rw [slot_set_other _ _ hj] at hb
      exact h.window j b hb
  distinct j k b hb hc := by
    by_cases hj : j = i <;> by_cases hk : k = i
    · rw [hj, hk]
    · subst hj
      rw [slot_set_same, ho] at hb
      rw [slot_set_other _ _ hk] at hc
      cases hb
      exact absurd hc (hf.alone k hk)
    · subst hk
      rw [slot_set_same, ho] at hc
      rw [slot_set_other _ _ hj] at hb
      cases hc
      exact absurd hb (hf.alone j hj)
    · rw [slot_set_other _ _ hj] at hb
      rw [slot_set_other _ _ hk] at hc
      exact h.distinct j k b hb hc
  entries j := by
    by_cases hj : j = i
    · subst hj
      rw [slot_set_same]
      exact hsl
    · rw [slot_set_other _ _ hj]
      exact h.entries j

/-! ### When a hand-over is due -/

/-- A hand-over is due (R100, R101): the entry of next_expected is DECIDED, or it has none and counts as a hole. -/
def HandDue (slots : Vector Slot 16) (next counter : Nat) (st : Standing) : Prop :=
  (∃ (i : Fin 16) (c : Collecting) (a : ConsensusAxle), slotOf slots next = some i ∧ slots[i] = .decided c a) ∨
  (slotOf slots next = none ∧ (∃ o ∈ decidedOrdinals slots, next < o) ∧ (st ≠ .contributing ∨ next ≤ counter))

theorem holeDue_iff (s : State) : s.holeDue = true ↔
    (∃ o ∈ decidedOrdinals s.table.slots, s.table.nextExpected < o) ∧
    (s.train.standing ≠ .contributing ∨ s.table.nextExpected ≤ s.wheel.counter) := by
  simp [State.holeDue]

theorem handStep_none_iff (s : State) : handStep s = none ↔
    ¬ HandDue s.table.slots s.table.nextExpected s.wheel.counter s.train.standing := by
  unfold handStep HandDue
  cases hs : slotOf s.table.slots s.table.nextExpected with
  | none =>
    by_cases hh : s.holeDue = true
    · simp [hh, (holeDue_iff s).1 hh]
    · simp [hh, ← holeDue_iff]
  | some i =>
    simp only [Fin.getElem_fin]
    cases hi : s.table.slots[i.val] <;> simp [hi]

/-- A hand-over that is due has a DECIDED entry at or above next_expected (R100, R101). -/
theorem HandDue.decided {slots : Vector Slot 16} {next counter : Nat} {st : Standing}
    (h : HandDue slots next counter st) : ∃ o ∈ decidedOrdinals slots, next ≤ o := by
  rcases h with ⟨i, c, a, hs, hi⟩ | ⟨-, ⟨o, ho, hlt⟩, -⟩
  · have hord := slotOf_ordinal hs
    rw [hi] at hord
    exact ⟨next, mem_decidedOrdinals_iff.2 ⟨i, hi ▸ hord⟩, le_rfl⟩
  · exact ⟨o, ho, hlt.le⟩

/-- An OPEN entry written over a free slot or over the entry of its ordinal makes no hand-over due (R100, R101). -/
theorem HandDue.of_opened {tb : ConsensusTable} (h : TableWf tb) {i : Fin 16} {c : Collecting} {d : Tick} {n : Nat}
    {st : Standing} (hi : ∀ a, (tb.slots[i]).ordinal? = some a → a = c.ordinal)
    (g : HandDue (tb.slots.set i (.opened c d)) tb.nextExpected n st) : HandDue tb.slots tb.nextExpected n st := by
  rcases g with ⟨j, x, a, hs, hj⟩ | ⟨hs, ⟨o, ho, hlt⟩, hst⟩
  · have hne : j ≠ i := fun e => by simp [e] at hj
    have hord := slotOf_ordinal hs
    rw [slot_set_other _ _ hne] at hj hord
    exact .inl ⟨j, x, a, h.slotOf_of hord, hj⟩
  · refine .inr ⟨slotOf_eq_none.2 fun j hj => ?_, ⟨o, ?_, hlt⟩, hst⟩
    · have hnone := slotOf_eq_none.1 hs j
      by_cases hji : j = i
      · subst hji
        rw [slot_set_same, hi _ hj] at hnone
        exact hnone rfl
      · rw [slot_set_other _ _ hji] at hnone
        exact hnone hj
    · obtain ⟨j, hj⟩ := mem_decidedOrdinals_iff.1 ho
      have hne : j ≠ i := fun e => by
        rw [e, slot_set_same] at hj
        cases hj
      rw [slot_set_other _ _ hne] at hj
      exact mem_decidedOrdinals_iff.2 ⟨j, hj⟩

end Sys2Proof.Machine
end

section
/-! Hand-overs, decisions, forced steps and contributions keep the Consensus Table's form. -/

namespace Sys2Proof.Machine

/-! ### Hand-overs -/

theorem handAxle_wf {s : State} (h : TableWf s.table) (a : ConsensusAxle) (hn : s.table.nextExpected ≤ 65535)
    (hs : slotOf s.table.slots s.table.nextExpected = none) : TableWf (handAxle a s).table := by
  rw [handAxle_table]
  exact h.raise hn (.refl _) (slotOf_eq_none.1 hs) _

/-- The slot of next_expected freed leaves no entry for it (R89, R100). -/
theorem TableWf.gone {tb : ConsensusTable} (h : TableWf tb) {i : Fin 16} {a : Nat}
    (ha : (tb.slots[i]).ordinal? = some a) (j : Fin 16) : ((tb.slots.set i .free)[j]).ordinal? ≠ some a := by
  intro hj
  by_cases hji : j = i
  · subst hji
    rw [slot_set_same] at hj
    cases hj
  · rw [slot_set_other _ _ hji] at hj
    exact (h.fits ha).alone j hji hj

theorem handEntry_wf {s : State} (h : TableWf s.table) (i : Fin 16) (a : ConsensusAxle)
    (ho : (s.table.slots[i]).ordinal? = some s.table.nextExpected) : TableWf (handEntry i a s).table := by
  rw [handEntry_table]
  exact h.raise (h.next_le ho) (freed_set _ i) (h.gone ho) _

/-- One hand-over keeps the table's form and frees at most a slot (R100, R101). -/
theorem handStep_keeps {s t : State} (hst : handStep s = some t) : Freed s.table.slots t.table.slots ∧
    (TableWf s.table → TableWf t.table) := by
  have hdue : ¬ handStep s = none := by simp [hst]
  rw [handStep_none_iff, not_not] at hdue
  obtain ⟨o, ho, hle⟩ := hdue.decided
  have hn (h : TableWf s.table) : s.table.nextExpected ≤ 65535 := by
    obtain ⟨i, hi⟩ := mem_decidedOrdinals ho
    exact hle.trans (h.next_le hi)
  unfold handStep at hst
  split at hst
  · rename_i i hs
    split at hst
    · cases hst
      refine ⟨?_, fun h => handEntry_wf h i _ (slotOf_ordinal hs)⟩
      rw [handEntry_table]
      exact freed_set _ i
    · cases hst
    · cases hst
  · rename_i hs
    split at hst
    · cases hst
      refine ⟨?_, fun h => handAxle_wf h _ (hn h) hs⟩
      rw [handAxle_table]
      exact .refl _
    · cases hst

theorem handRun_wf (n : Nat) {s : State} (h : TableWf s.table) : TableWf (handRun n s).table := by
  induction n generalizing s with
  | zero => exact h
  | succ n ih =>
    unfold handRun
    split
    · exact h
    · rename_i t hst
      exact ih ((handStep_keeps hst).2 h)

theorem handChain_wf {s : State} (h : TableWf s.table) : TableWf (handChain s).table := handRun_wf _ h

/-- Hand-overs up to the highest DECIDED ordinal leave none due (R100, R101). -/
theorem handRun_settles (n : Nat) (s : State)
    (h : ∀ o ∈ decidedOrdinals s.table.slots, o < s.table.nextExpected + n) :
    handStep (handRun n s) = none := by
  induction n generalizing s with
  | zero =>
    rw [handRun, handStep_none_iff]
    intro g
    obtain ⟨o, ho, hle⟩ := g.decided
    exact absurd (h o ho) (Nat.not_lt.2 hle)
  | succ n ih =>
    unfold handRun
    split
    · assumption
    · rename_i t hst
      refine ih t fun o ho => ?_
      have hlt := h o ((handStep_keeps hst).1.decided ho)
      rw [handStep_nextExpected hst]
      omega

/-- No hand-over is due after the chain (R100, R101). -/
theorem handChain_settles (s : State) : handStep (handChain s) = none := by
  refine handRun_settles _ s fun o ho => ?_
  have hle := le_maxOf ho
  omega

/-! ### Decisions and forced steps -/

theorem decideEntry_wf {s : State} (h : TableWf s.table) {i : Fin 16} {c : Collecting} (hf : s.table.Fits i c.ordinal)
    (hc : EntryInv c) (t : Trigger) : TableWf (decideEntry i c t s).table := by
  rw [decideEntry_table]
  exact h.put hf rfl (by exact ⟨hc, rfl⟩) _

theorem TableWf.opened {tb : ConsensusTable} (h : TableWf tb) {i : Fin 16} {c : Collecting} {d : Tick}
    (hi : tb.slots[i] = .opened c d) : tb.Fits i c.ordinal ∧ EntryInv c ∧ c.awaitedList ≠ [] :=
  ⟨h.fits (by rw [hi]; rfl), by simpa [SlotWf, hi] using h.entries i⟩

theorem forcedStep_wf {s : State} (h : TableWf s.table) (hn : s.table.nextExpected ≤ 65535) :
    TableWf (forcedStep s).table := by
  cases hs : slotOf s.table.slots s.table.nextExpected with
  | none =>
    rw [forcedStep_none s hs]
    exact handAxle_wf h _ hn hs
  | some i =>
    have ho := slotOf_ordinal hs
    cases hi : s.table.slots[i] with
    | free => simp [hi, Slot.ordinal?] at ho
    | opened c e =>
      obtain ⟨hf, hc, -⟩ := h.opened hi
      rw [forcedStep_opened s hs hi]
      refine handEntry_wf (decideEntry_wf h hf hc _) i _ ?_
      rw [hi] at ho
      rw [decideEntry_table, slot_set_same]
      exact ho
    | decided c a =>
      rw [forcedStep_decided s hs hi]
      exact handEntry_wf h i a ho

theorem handUpTo_wf (n : Nat) {last : Nat} {s : State} (h : TableWf s.table) (hl : last ≤ 65535) :
    TableWf (handUpTo n last s).table := by
  induction n generalizing s with
  | zero => exact h
  | succ n ih =>
    unfold handUpTo
    split
    · exact ih (forcedStep_wf h (Nat.le_trans ‹_› hl))
    · exact h

theorem handUpTo_highestOpened (n last : Nat) (s : State) :
    (handUpTo n last s).table.highestOpened = s.table.highestOpened := by
  induction n generalizing s with
  | zero => rfl
  | succ n ih =>
    unfold handUpTo
    split
    · obtain ⟨_, _, ht, -⟩ := forcedStep_table s
      rw [ih, ht]
      rfl
    · rfl

/-- A flush up to the highest opened ordinal or above leaves every entry FREE (R89, R104). -/
theorem flushTo_free {s : State} {last : Nat} (h : TableWf s.table) (hl : last ≤ 65535)
    (hh : s.table.highestOpened ≤ last) (i : Fin 16) : (flushTo last s).table.slots[i] = .free := by
  have hw : TableWf (flushTo last s).table := handUpTo_wf _ h hl
  have hnext := handUpTo_nextExpected (last + 1 - s.table.nextExpected) last s rfl
  have hhigh := handUpTo_highestOpened (last + 1 - s.table.nextExpected) last s
  have hnone : ∀ a, ((flushTo last s).table.slots[i]).ordinal? ≠ some a := fun a ha => by
    obtain ⟨hlo, -, hmax⟩ := hw.window i a ha
    rw [flushTo] at hlo hmax
    omega
  cases hi : (flushTo last s).table.slots[i] with
  | free => rfl
  | opened c d => exact absurd (by rw [hi]; rfl) (hnone c.ordinal)
  | decided c a => exact absurd (by rw [hi]; rfl) (hnone c.ordinal)

/-! ### Contributions -/

/-- Each round of a forced advance to an ordinal up to 65,535 keeps the table's form (R93). -/
theorem advanceOnce_wf {s : State} (h : TableWf s.table) (hn : s.table.nextExpected ≤ 65535) :
    TableWf (advanceOnce s).table := handChain_wf (forcedStep_wf h hn)

theorem TableWf.upper {tb : ConsensusTable} (h : TableWf tb) (i : Fin 16) (a : Nat)
    (ha : (tb.slots[i]).ordinal? = some a) : a ≤ tb.nextExpected + 15 := (h.window i a ha).2.1

/-- A forced advance keeps the table's form and leaves no hand-over due, and its ordinal comes to lie in the window
(R93). -/
theorem forceAdvance_keeps (n a : Nat) {s : State} (h : TableWf s.table) (ha : a ≤ 65535)
    (hn : a ≤ s.table.nextExpected + 15 + n) (hlo : s.table.nextExpected ≤ a) (hs : handStep s = none) :
    TableWf (forceAdvance n a s).table ∧ handStep (forceAdvance n a s) = none ∧
      (forceAdvance n a s).table.nextExpected ≤ a ∧ a ≤ (forceAdvance n a s).table.nextExpected + 15 := by
  induction n generalizing s with
  | zero => exact ⟨h, hs, hlo, hn⟩
  | succ n ih =>
    by_cases hd : a ≤ s.table.nextExpected + 15
    · rw [forceAdvance_done _ a s hd]
      exact ⟨h, hs, hlo, hd⟩
    · have hle := le_advanceOnce s
      have hge := advanceOnce_le s h.upper
      rw [forceAdvance_more n a s (by omega)]
      exact ih (advanceOnce_wf h (by omega)) (by omega) (by omega) (handChain_settles _)

/-- An entry that a contribution of its ordinal joins (R94, R95). -/
theorem entryInv_place {c : Collecting} {p : Pos} {q : Partial}
    (he : ∀ x : Pos, (c.contribs[x]).isSome = true → c.expected[x] = true)
    (ho : ∀ (x : Pos) (y : Partial), c.contribs[x] = some y → y.ordinal = c.ordinal) (hq : q.ordinal = c.ordinal) :
    EntryInv (c.place p q) where
  present := ⟨p, by simp [Collecting.place]⟩
  expected x hx := by
    by_cases hp : x = p
    · simp [Collecting.place, hp]
    · simp only [Collecting.place, vector_set_other _ _ hp] at hx ⊢
      exact he x hx
  ordinals x y hx := by
    by_cases hp : x = p
    · have hy : q = y := by simpa [Collecting.place, hp] using hx
      exact hy ▸ hq
    · simp only [Collecting.place, vector_set_other _ _ hp] at hx
      exact ho x y hx

/-- The table's form, with no hand-over due (R89, R100, R101). -/
def TableSettled (s : State) : Prop := TableWf s.table ∧ handStep s = none

/-- A contribution stored where its entry fits keeps the table's form and leaves no hand-over due (R95). -/
theorem storeAt_keeps {s : State} (h : TableSettled s) {i : Fin 16} {c : Collecting} {p : Pos} {q : Partial}
    (hf : s.table.Fits i c.ordinal) (hc : EntryInv (c.place p q))
    (hi : ∀ a, (s.table.slots[i]).ordinal? = some a → a = c.ordinal) : TableSettled (storeAt i c p q s) := by
  obtain ⟨hw, hs⟩ := h
  by_cases ha : (c.place p q).awaitedList = []
  · rw [storeAt_complete i c p q s ha]
    exact ⟨handChain_wf (decideEntry_wf (c := c.place p q) hw hf hc .complete), handChain_settles _⟩
  · rw [storeAt_waiting i c p q s ha]
    refine ⟨hw.put hf rfl (by exact ⟨hc, ha⟩) _, ?_⟩
    rw [handStep_none_iff] at hs ⊢
    exact mt (HandDue.of_opened hw (c := c.place p q) hi) hs

theorem TableWf.higher {tb : ConsensusTable} (h : TableWf tb) {n : Nat} (hn : n ≤ 65535) :
    TableWf { tb with highestOpened := max tb.highestOpened n } :=
  { h with
    highest := max_le h.highest hn
    window := fun i a ha => ⟨(h.window i a ha).1, (h.window i a ha).2.1, le_max_of_le_left (h.window i a ha).2.2⟩ }

theorem newEntry_place_inv (s : State) (p : Pos) (q : Partial) : EntryInv ((s.newEntry q.ordinal).place p q) := by
  refine entryInv_place (fun x hx => ?_) (fun x y hx => ?_) rfl
  · rw [newEntry_contribs] at hx
    cases hx
  · rw [newEntry_contribs] at hx
    cases hx

theorem freeSlot_spec {slots : Vector Slot 16} {i : Fin 16} (h : freeSlot slots = some i) : slots[i] = .free := by
  have hf : (slots[i]).isFree = true := by simpa using List.find?_some h
  cases hi : slots[i] with
  | free => rfl
  | opened c d => simp [hi, Slot.isFree] at hf
  | decided c a => simp [hi, Slot.isFree] at hf

/-- A contribution inside the window keeps the table's form and leaves no hand-over due (R94, R95). -/
theorem storeInWindow_keeps {s : State} (h : TableSettled s) {p : Pos} {q : Partial}
    (hlo : s.table.nextExpected ≤ q.ordinal) (hhi : q.ordinal ≤ s.table.nextExpected + 15) (hq : q.ordinal ≤ 65535) :
    TableSettled (storeInWindow p q s) := by
  obtain ⟨hw, hs⟩ := h
  unfold storeInWindow
  split
  · rename_i i hi
    have hord := slotOf_ordinal hi
    split
    · rename_i c d hslot
      obtain ⟨hf, hc, -⟩ := hw.opened hslot
      rw [hslot] at hord
      have hcq : q.ordinal = c.ordinal := (Option.some.inj hord).symm
      refine storeAt_keeps ⟨hw, hs⟩ hf (entryInv_place hc.expected hc.ordinals hcq) fun a ha => ?_
      rw [hslot] at ha
      exact (Option.some.inj ha).symm
    · exact ⟨hw, hs⟩
    · exact ⟨hw, hs⟩
  · rename_i hnone
    split
    · exact ⟨hw, hs⟩
    · rename_i i hi
      have hfree := freeSlot_spec hi
      refine storeAt_keeps ⟨hw.higher hq, ?_⟩ ⟨⟨hlo, hhi, le_max_right _ _⟩, fun j _ => slotOf_eq_none.1 hnone j⟩
        (newEntry_place_inv s p q) fun a ha => ?_
      · rw [handStep_none_iff] at hs ⊢
        exact hs
      · rw [hfree] at ha
        cases ha

/-- Taking a contribution of an ordinal up to 65,535 keeps the table's form and leaves no hand-over due (R91 to
R96). -/
theorem takeContribution_keeps {s : State} (h : TableSettled s) (p : Pos) {q : Partial} (hq : q.ordinal ≤ 65535) :
    TableSettled (takeContribution p q s) := by
  unfold takeContribution
  split
  · split
    · exact h
    · rename_i hlate
      obtain ⟨hw, hs, hlo, hhi⟩ := forceAdvance_keeps
        (q.ordinal - s.table.nextExpected - Config.windowSpan) q.ordinal h.1 hq
        (by simp only [Config.windowSpan]; omega) (Nat.le_of_not_lt hlate) h.2
      exact storeInWindow_keeps ⟨hw, hs⟩ hlo hhi hq
  · exact h

end Sys2Proof.Machine
end

section
/-! The abandonment of a train. -/

namespace Sys2Proof.Machine

/-! ### AXLE frames cancelled -/

/-- The queue after a cancellation: of the frames that carry the identity only one in attempt stays (R75). -/
theorem cancelFrame_queue (id : Nat) (s : State) : (cancelFrame id s).link.queue =
    s.link.queue.filter fun f => f.id != id || s.link.attempt == some f.id := by
  unfold cancelFrame
  split
  · split
    · rename_i ha
      refine (List.filter_eq_self.2 fun f _ => ?_).symm
      by_cases hf : f.id = id <;> simp [hf, ha]
    · rename_i ha
      refine List.filter_congr fun f _ => ?_
      by_cases hf : f.id = id <;> simp [hf, ha]
  · rename_i hn
    refine (List.filter_eq_self.2 fun f hf => ?_).symm
    have hne : f.id ≠ id := fun h => hn (List.any_eq_true.2 ⟨f, hf, beq_iff_eq.2 h⟩)
    simp [hne]

theorem foldCancel_queue (ids : List Nat) (s : State) : (ids.foldl (fun s id => cancelFrame id s) s).link.queue =
    s.link.queue.filter fun f => !ids.contains f.id || s.link.attempt == some f.id := by
  induction ids generalizing s with
  | nil => simp
  | cons id ids ih =>
    rw [List.foldl_cons, ih, cancelFrame_queue, (cancelFrame_noNewAxle id s).1, List.filter_filter]
    refine List.filter_congr fun f _ => ?_
    by_cases hf : f.id = id
    · simp +contextual [hf]
    · have hne : (f.id != id) = true := bne_iff_ne.2 hf
      simp [hf, hne]

/-- With identities distinct, cancelling the AXLE frames drops those that wait outside an attempt and no other frame
(R59, R75). -/
theorem cancelAxles_queue (s : State) (h : (s.link.queue.map QFrame.id).Nodup) : (cancelAxles s).link.queue =
    s.link.queue.filter fun f => f.kind != .axle || s.link.attempt == some f.id := by
  rw [cancelAxles, foldCancel_queue]
  refine List.filter_congr fun f hf => ?_
  have hmem : f.id ∈ (s.link.queue.filter fun g => g.kind == .axle).map QFrame.id ↔ f.kind = .axle := by
    constructor
    · intro hid
      obtain ⟨g, hg, hgf⟩ := List.mem_map.1 hid
      obtain ⟨hgq, hgk⟩ := List.mem_filter.1 hg
      exact List.inj_on_of_nodup_map h hgq hf hgf ▸ beq_iff_eq.1 hgk
    · exact fun hk => List.mem_map_of_mem (List.mem_filter.2 ⟨hf, beq_iff_eq.2 hk⟩)
  by_cases hk : f.kind = .axle <;> simp [hmem, hk]

/-! ### The steps of R164 -/

/-- The station whose train is abandoned, its dwell discarded, its counter cleared and its AXLE frames cancelled (R36,
R59, R164). -/
def abandonBegun (s : State) : State := cancelAxles (clearCounter (discardDwell s))

/-- What the cut at reversal ordinal `r` hands over, the entries it frees still in the table (R105). -/
def abandonCut (r : Nat) (s : State) : State := flushTo (min (r - 1) s.highestKnown) (abandonBegun s)

theorem enterAbandoned_eq (r : Nat) (s : State) : enterAbandoned r s =
    restartClose { closeVehicle { reversed := true } (freeAll (abandonCut r s)) with
      train :=
        { (closeVehicle { reversed := true } (freeAll (abandonCut r s))).train with state := .abandoned } } := rfl

theorem abandonBegun_eq (s : State) : ∃ l, abandonBegun s =
    { s with wheel := { s.wheel with dwell := none, counter := 0, prev := none }
             pass := { s.pass with buffer := [], snapshot := none }
             link := l } := cancelAxles_frame _

theorem abandonBegun_table (s : State) : (abandonBegun s).table = s.table := by
  obtain ⟨_, h⟩ := abandonBegun_eq s
  rw [h]

theorem abandonCut_frame (r : Nat) (s : State) : TableFrame (abandonBegun s) (abandonCut r s) := flushTo_frame _ _

/-- The cut hands every ordinal up to the lower of `r - 1` and the highest known (R102, R105). -/
theorem abandonCut_counts (r : Nat) (s : State) :
    (abandonCut r s).table.nextExpected = max s.table.nextExpected (min (r - 1) s.highestKnown + 1) ∧
    (s.table.handedCount ≤ 65535 → (abandonCut r s).table.handedCount =
      min (s.table.handedCount + (min (r - 1) s.highestKnown + 1 - s.table.nextExpected)) 65535) := by
  rw [← abandonBegun_table s]
  refine ⟨?_, fun hc => handUpTo_handedCount _ _ (abandonBegun s) rfl hc⟩
  rw [abandonCut, flushTo, handUpTo_nextExpected _ _ (abandonBegun s) rfl]
  omega

theorem enterAbandoned_table (r : Nat) (s : State) : (enterAbandoned r s).table =
    { (abandonCut r s).table with slots := Vector.replicate 16 .free } := closeVehicle_table _ _

/-- The blocks that an abandonment writes in a fixed way or not at all (R36, R41, R164). -/
structure AbandonKeeps (s t : State) : Prop where
  wheel : t.wheel = { s.wheel with dwell := none, counter := 0, prev := none }
  pass : t.pass = { s.pass with buffer := [], snapshot := none }
  state : t.train.state = .abandoned
  train : t.train.dir = s.train.dir ∧ t.train.number = s.train.number ∧ t.train.ownClose = s.train.ownClose ∧
    t.train.peerClose = s.train.peerClose
  rc : t.rc = s.rc
  fe : t.fe = s.fe
  zero : t.zero = s.zero
  conf : t.conf = s.conf
  tick : t.tick = s.tick

theorem enterAbandoned_keeps (r : Nat) (s : State) : AbandonKeeps s (enterAbandoned r s) := by
  obtain ⟨l, hl⟩ := abandonBegun_eq s
  have hf : TableFrame (abandonBegun s) (closeVehicle { reversed := true } (freeAll (abandonCut r s))) :=
    (abandonCut_frame r s).trans ((table_frame _ _).trans (closeVehicle_frame _ _).table)
  rw [hl] at hf
  obtain ⟨_, _, _, _, _, _, _, _, _, ht⟩ := hf
  rw [enterAbandoned_eq, ht]
  exact ⟨rfl, rfl, rfl, ⟨rfl, rfl, rfl, rfl⟩, rfl, rfl, rfl, rfl, rfl⟩

/-- After an abandonment only an AXLE frame in attempt is queued (R59, R75). -/
theorem enterAbandoned_axles (r : Nat) (s : State) {f : QFrame} (hf : f ∈ (enterAbandoned r s).link.queue)
    (hk : f.kind = .axle) : s.link.attempt = some f.id := by
  have hn : NoNewAxle (abandonBegun s).link (enterAbandoned r s).link :=
    (handUpTo_noNewAxle _ _ _).trans (closeVehicle_noNewAxle _ (freeAll (abandonCut r s)))
  exact cancelAxles_gone (clearCounter (discardDwell s)) (hn.2 f hf hk) hk

/-- Settles O41: the steps of R164, the cut's counts, then what each block is left with. -/
theorem abandonmentLeaves : Obligations.AbandonmentLeaves := by
  intro r s t known last cut closed
  have hknown : s.highestKnown = known := highestKnown_eq s
  have hcut : abandonCut r s = cut := by
    rw [abandonCut, hknown]
    rfl
  have heq : t = restartClose { closed with train := { closed.train with state := .abandoned } } := by
    have h := enterAbandoned_eq r s
    rwa [hcut] at h
  have hk : AbandonKeeps s t := enterAbandoned_keeps r s
  have htable : t.table = _ := enterAbandoned_table r s
  have hcounts := abandonCut_counts r s
  rw [hknown] at hcounts
  obtain ⟨hdir, hnum, hown, hpeer⟩ := hk.train
  have hvehicle : t.asm.vehicle = none := closeVehicle_vehicle _ _
  refine ⟨heq, ?_, ?_, hk.state, congrArg WheelTimer.counter hk.wheel, congrArg WheelTimer.prev hk.wheel,
    congrArg WheelTimer.dwell hk.wheel, by rw [hk.wheel], by rw [hk.wheel],
    congrArg PassageIntegrator.snapshot hk.pass, congrArg PassageIntegrator.buffer hk.pass,
    by rw [hk.pass], fun i => by rw [htable]; simp, hvehicle,
    fun f hf => enterAbandoned_axles r s hf, rfl, hdir, hnum, hown, hpeer, hk.rc, hk.fe, hk.zero, hk.conf, hk.tick,
    cancelAxles_frame s, cancelAxles_queue s⟩
  · rw [htable]
    exact hcounts.1
  · rw [htable]
    exact hcounts.2

end Sys2Proof.Machine
end

section
/-! What the Consensus Table's invariant reads, and the commands that leave all of it. -/

namespace Sys2Proof.Machine

/-! ### The invariant of the state -/

/-- `TableInv` is the table's form, no hand-over due, and what concerns the counter, the snapshot and the train. -/
theorem tableInv_iff (s : State) : TableInv s ↔ TableSettled s ∧ s.wheel.counter ≤ 65535 ∧
    (∀ n, s.pass.snapshot = some n → 1 ≤ n.ordinal ∧ n.ordinal ≤ 65535) ∧
    (s.train.state ≠ .running → ∀ i : Fin 16, s.table.slots[i] = .free) := by
  constructor
  · intro h
    obtain ⟨hhigh, hhand, hcount⟩ := h.counters
    refine ⟨⟨⟨h.next, hhigh, hhand, h.window, h.distinct, fun i => ?_⟩, h.settled⟩, hcount, h.snapshot, h.free⟩
    cases hi : s.table.slots[i] with
    | free => trivial
    | opened c d => exact h.opened i c d hi
    | decided c a => exact h.decided i c a hi
  · rintro ⟨⟨hw, hs⟩, hcount, hsnap, hfree⟩
    exact
      { next := hw.next
        counters := ⟨hw.highest, hw.handed, hcount⟩
        snapshot := hsnap
        window := hw.window
        distinct := hw.distinct
        opened := fun i c d hi => (hw.opened hi).2
        decided := fun i c a hi => by simpa [SlotWf, hi] using hw.entries i
        settled := hs
        free := hfree }

theorem TableInv.table {s : State} (h : TableInv s) : TableSettled s := ((tableInv_iff s).1 h).1

theorem TableInv.counter {s : State} (h : TableInv s) : s.wheel.counter ≤ 65535 := h.counters.2.2

theorem TableInv.freeSlots {s : State} (h : TableInv s) (hn : s.train.state ≠ .running) :
    s.table.slots = Vector.replicate 16 .free := slots_eq_free (h.free hn)

/-- A table whose entries are all FREE has its form when its counts are in range. -/
theorem tableWf_free {tb : ConsensusTable} (hf : tb.slots = Vector.replicate 16 .free)
    (hn : 1 ≤ tb.nextExpected ∧ tb.nextExpected ≤ 65536) (hh : tb.highestOpened ≤ 65535)
    (hc : tb.handedCount ≤ 65535) : TableWf tb := by
  have hslot : ∀ i : Fin 16, tb.slots[i] = .free := fun i => by simp [hf]
  refine ⟨hn, hh, hc, fun i a ha => ?_, fun i j a ha => ?_, fun i => hslot i ▸ trivial⟩
  · rw [hslot] at ha
    cases ha
  · rw [hslot] at ha
    cases ha

/-- A state whose entries are all FREE meets the invariant when its counts are in range (R90, R106). -/
theorem tableInv_free {s : State} (hf : s.table.slots = Vector.replicate 16 .free)
    (hn : 1 ≤ s.table.nextExpected ∧ s.table.nextExpected ≤ 65536) (hh : s.table.highestOpened ≤ 65535)
    (hc : s.table.handedCount ≤ 65535) (hw : s.wheel.counter ≤ 65535)
    (hsnap : ∀ n, s.pass.snapshot = some n → 1 ≤ n.ordinal ∧ n.ordinal ≤ 65535) : TableInv s :=
  (tableInv_iff s).2 ⟨⟨tableWf_free hf hn hh hc, handStep_free s hf⟩, hw, hsnap, fun _ i => by simp [hf]⟩

/-! ### What the invariant reads -/

/-- `t` has all of `s` that `TableInv` reads. -/
structure SameTable (s t : State) : Prop where
  table : t.table = s.table
  counter : t.wheel.counter = s.wheel.counter
  snapshot : t.pass.snapshot = s.pass.snapshot
  state : t.train.state = s.train.state
  standing : t.train.standing = s.train.standing

theorem SameTable.refl (s : State) : SameTable s s := ⟨rfl, rfl, rfl, rfl, rfl⟩

theorem SameTable.trans {s t u : State} (h : SameTable s t) (g : SameTable t u) : SameTable s u where
  table := g.table.trans h.table
  counter := g.counter.trans h.counter
  snapshot := g.snapshot.trans h.snapshot
  state := g.state.trans h.state
  standing := g.standing.trans h.standing

/-- Two changes, the later one first: the state between them is then read off the later one. -/
theorem SameTable.after {s t u : State} (h : SameTable t u) (g : SameTable s t) : SameTable s u := g.trans h

theorem SameTable.settled {s t : State} (h : SameTable s t) (hs : TableSettled s) : TableSettled t := by
  obtain ⟨hw, hh⟩ := hs
  refine ⟨h.table ▸ hw, ?_⟩
  rw [handStep_none_iff] at hh ⊢
  rwa [h.table, h.counter, h.standing]

theorem SameTable.inv {s t : State} (h : SameTable s t) (hs : TableInv s) : TableInv t := by
  obtain ⟨hw, hc, hsnap, hf⟩ := (tableInv_iff s).1 hs
  refine (tableInv_iff t).2 ⟨h.settled hw, ?_, ?_, ?_⟩
  · rwa [h.counter]
  · rwa [h.snapshot]
  · rwa [h.state, h.table]

/-- The same, the invariant first: `t` is then read off the goal. -/
theorem TableInv.same {s t : State} (hs : TableInv s) (h : SameTable s t) : TableInv t := h.inv hs

theorem QueueFrame.sameTable {s t : State} (h : QueueFrame s t) : SameTable s t := by
  obtain ⟨_, _, _, _, rfl⟩ := h
  exact ⟨rfl, rfl, rfl, rfl, rfl⟩

theorem setFault_sameTable (f : StationFault) (s : State) : SameTable s (setFault f s) :=
  (setFault_frame f s).sameTable.after ⟨rfl, rfl, rfl, rfl, rfl⟩

/-- The Link Controller, the Rate Controller, the Front End and the Zero Tracker are no part of what `TableInv`
reads. -/
theorem sameTable_blocks (s : State) (l : LinkControl) (rc : RateControl) (fe : FrontEnd) (z : ZeroTracker) :
    SameTable s { s with link := l, rc := rc, fe := fe, zero := z } := ⟨rfl, rfl, rfl, rfl, rfl⟩

theorem sameTable_link (s : State) (l : LinkControl) : SameTable s { s with link := l } := ⟨rfl, rfl, rfl, rfl, rfl⟩

theorem cancelFrame_sameTable (id : Nat) (s : State) : SameTable s (cancelFrame id s) := by
  obtain ⟨l, h⟩ := cancelFrame_frame id s
  exact h ▸ sameTable_link s l

theorem rosterTake_sameTable (k : Kind) (f : RxFrame) (s : State) : SameTable s (rosterTake k f s) :=
  ⟨rfl, rfl, rfl, rfl, rfl⟩

/-! ### Commands that leave what the invariant reads -/

theorem wakeRate_sameTable (s : State) : SameTable s (wakeRate s) := by
  unfold wakeRate
  split
  · exact .refl s
  · exact ⟨rfl, rfl, rfl, rfl, rfl⟩
  · exact ⟨rfl, rfl, rfl, rfl, rfl⟩

theorem takeWake_sameTable (w : WakeSource) (s : State) : SameTable s (takeWake w s) := by
  unfold takeWake
  split
  · exact (sameTable_blocks s s.link _ s.fe s.zero).trans (wakeRate_sameTable _)
  · exact .refl s

theorem quietTimerExpiry_sameTable (s : State) : SameTable s (quietTimerExpiry s) := by
  unfold quietTimerExpiry quietExpired
  split
  · split
    · exact (takeWake_sameTable _ s).trans (takeWake_sameTable _ _)
    · split
      · exact sameTable_blocks s s.link _ s.fe s.zero
      · exact sameTable_blocks s s.link _ s.fe s.zero
  · exact .refl s

theorem dormantEntryComplete_sameTable (s : State) : SameTable s (dormantEntryComplete s) := by
  unfold dormantEntryComplete
  split
  · exact sameTable_blocks s s.link _ _ s.zero
  · exact .refl s

theorem refreshTimerExpiry_sameTable (s : State) : SameTable s (refreshTimerExpiry s) := by
  unfold refreshTimerExpiry
  split
  · exact wakeRate_sameTable s
  · exact .refl s

theorem settlingComplete_sameTable (s : State) : SameTable s (settlingComplete s) := by
  unfold settlingComplete
  split
  · exact sameTable_blocks s s.link s.rc _ s.zero
  · exact .refl s

theorem setHold_counter (w : WheelTimer) (d : Detector) (e : Option Tick) : (w.setHold d e).counter = w.counter := by
  cases d <;> rfl

theorem debounceHoldEnd_sameTable (d : Detector) (s : State) : SameTable s (debounceHoldEnd d s) := by
  unfold debounceHoldEnd
  split
  · exact ⟨rfl, setHold_counter _ d none, rfl, rfl, rfl⟩
  · exact .refl s

theorem zeroTake_sameTable (p : Pair) (s : State) : SameTable s (zeroTake p s) := by
  unfold zeroTake
  split
  · exact .refl s
  · split
    · split
      · unfold capturePair
        split
        · exact sameTable_blocks s s.link s.rc s.fe _
        · dsimp only
          split
          · exact sameTable_blocks s s.link s.rc s.fe _
          · split
            · exact (sameTable_blocks s s.link s.rc s.fe _).trans (offerPresence_frame _).sameTable
            · exact sameTable_blocks s s.link s.rc s.fe _
      · unfold trackPair
        dsimp only
        split
        · exact (sameTable_blocks s s.link s.rc s.fe _).trans (setFault_sameTable _ _)
        · exact sameTable_blocks s s.link s.rc s.fe _
    · exact .refl s

theorem judgeIdle_sameTable (p : Pair) (s : State) : SameTable s (judgeIdle p s) := by
  unfold judgeIdle
  split
  · exact setFault_sameTable _ s
  · exact .refl s

theorem producePair_sameTable (l r : Sample) (s : State) : SameTable s (producePair l r s) :=
  (sameTable_blocks s s.link s.rc _ s.zero).trans <| (judgeIdle_sameTable _ _).trans <|
    (zeroTake_sameTable _ _).trans ⟨rfl, rfl, rfl, rfl, rfl⟩

theorem samplePair_sameTable (l r : Sample) (s : State) : SameTable s (samplePair l r s) := by
  unfold samplePair
  split
  · exact producePair_sameTable l r s
  · exact .refl s

theorem zeroCaptureComplete_sameTable (l r : Sample) (s : State) : SameTable s (zeroCaptureComplete l r s) := by
  unfold zeroCaptureComplete
  split
  · exact producePair_sameTable l r s
  · exact .refl s

theorem attemptStart_sameTable (n : Nat) (s : State) : SameTable s (attemptStart n s) := by
  unfold attemptStart
  split
  · dsimp only
    split
    · exact sameTable_link s _
    · split
      · exact sameTable_link s _
      · exact sameTable_link s _
  · exact .refl s

theorem otherPartyStartMark_sameTable (n : Nat) (s : State) : SameTable s (otherPartyStartMark n s) := by
  unfold otherPartyStartMark
  split
  · split
    · exact sameTable_link s _
    · exact sameTable_link s _
  · exact .refl s

theorem labelSentUnbeaten_sameTable (s : State) : SameTable s (labelSentUnbeaten s) := by
  unfold labelSentUnbeaten
  split
  · exact sameTable_link s _
  · exact .refl s

theorem arbitrationLost_sameTable (s : State) : SameTable s (arbitrationLost s) := by
  unfold arbitrationLost
  split
  · exact sameTable_link s _
  · exact .refl s

theorem failAttempt_sameTable (f : QFrame) (s : State) : SameTable s (failAttempt f s) := by
  unfold failAttempt
  split
  · exact sameTable_link s _
  · exact (sameTable_link s _).trans ((notify_frame _ _ _).sameTable.trans (setFault_sameTable _ _))

theorem senderError_sameTable (n : Nat) (s : State) : SameTable s (senderError n s) := by
  unfold senderError
  split
  · dsimp only
    split
    · exact sameTable_link s _
    · split
      · exact sameTable_link s _
      · exact (sameTable_link s _).trans (failAttempt_sameTable _ _)
  · exact .refl s

theorem attemptComplete_sameTable (s : State) : SameTable s (attemptComplete s) := by
  unfold attemptComplete
  split
  · dsimp only
    split
    · exact sameTable_link s _
    · exact (sameTable_link s _).trans ((sameTable_link _ _).trans (notify_frame _ _ _).sameTable)
  · exact .refl s

theorem frameBroken_sameTable (c : BreakCause) (n : Nat) (s : State) : SameTable s (frameBroken c n s) := by
  unfold frameBroken
  split
  · exact sameTable_link s _
  · exact .refl s

theorem refuseSettings_sameTable (r : LastRefusal) (s : State) : SameTable s (refuseSettings r s) :=
  (offerPresence_frame _).sameTable.after ⟨rfl, rfl, rfl, rfl, rfl⟩

theorem takeCalibrate_sameTable (f : RxFrame) (s : State) : SameTable s (takeCalibrate f s) := by
  unfold takeCalibrate offerCalibrate
  split
  · split
    · exact refuseSettings_sameTable _ s
    · exact (offerPresence_frame _).sameTable.after ⟨rfl, rfl, rfl, rfl, rfl⟩
  · exact .refl s

theorem acceptSite_sameTable (st : Site) (s : State) : SameTable s (acceptSite st s) := by
  refine (offerPresence_frame _).sameTable.after ?_
  unfold resizeQuiet
  split
  · exact ⟨rfl, rfl, rfl, rfl, rfl⟩
  · exact ⟨rfl, rfl, rfl, rfl, rfl⟩

theorem takeSite_sameTable (f : RxFrame) (s : State) : SameTable s (takeSite f s) := by
  unfold takeSite
  split
  · split
    · exact refuseSettings_sameTable _ s
    · exact acceptSite_sameTable _ s
  · exact .refl s

theorem takeVehicleFrame_sameTable (f : RxFrame) (s : State) : SameTable s (takeVehicleFrame f s) := by
  unfold takeVehicleFrame
  split
  · exact (takePeerRecord_frame _ s).sameTable
  · exact .refl s

end Sys2Proof.Machine
end

section
/-! Resets, trains, contributions and detector events keep the Consensus Table's invariant. -/

namespace Sys2Proof.Machine

/-! ### Resets -/

theorem QueueFrame.inv {s t : State} (h : QueueFrame s t) (hs : TableInv s) : TableInv t := h.sameTable.inv hs

/-- No train, no dwell and the Consensus Table of power-on (R107, R167). -/
theorem tableInv_of_reset {s : State} (h : SameTable State.reset s) : TableInv s := h.inv reset_tableInv

theorem powerOn_tableInv (st : Straps) (s : State) : TableInv (powerOn st s) := by
  unfold powerOn
  dsimp only
  split
  · exact tableInv_of_reset ⟨rfl, rfl, rfl, rfl, rfl⟩
  · exact (offerPresence_frame _).inv (tableInv_of_reset ⟨rfl, rfl, rfl, rfl, rfl⟩)

/-- A RESTART leaves the Consensus Table as after power-on, and no train (R20, R36, R107, R174). -/
theorem takeRestart_tableInv (keep : Bool) (s : State) : TableInv (takeRestart keep s) := by
  rw [takeRestart_eq]
  exact (offerPresence_frame _).inv (tableInv_of_reset ⟨rfl, rfl, rfl, rfl, rfl⟩)

theorem takeRestartFrame_tableInv (f : RxFrame) {s : State} (h : TableInv s) : TableInv (takeRestartFrame f s) := by
  unfold takeRestartFrame
  split
  · exact takeRestart_tableInv _ s
  · exact h

/-! ### Trains -/

theorem openTrain_tableInv {s : State} (h : TableInv s) (hn : s.train.state = .noTrain) (d : Direction) (st : Standing)
    {n : Nat} (hlo : 1 ≤ n) (hhi : n ≤ 65535) : TableInv (openTrain d st n s) := by
  rw [openTrain_eq]
  exact tableInv_free (h.freeSlots (by simp [hn])) ⟨hlo, Nat.le_succ_of_le hhi⟩ (Nat.zero_le _) (Nat.zero_le _)
    (Nat.zero_le _) h.snapshot

theorem highestKnown_le {s : State} (h : TableInv s) : s.highestKnown ≤ 65535 := by
  have hc := h.counter
  have hh := h.table.1.highest
  rw [highestKnown_eq]
  split <;> omega

theorem sameTable_openFrame {s t : State} (h : SameTable s t) (id : Option Nat) :
    SameTable s { t with train := { t.train with openFrame := id } } := { h with }

theorem restartClose_sameTable (s : State) : SameTable s (restartClose s) := ⟨rfl, rfl, rfl, rfl, rfl⟩

theorem trainTakesDetector_tableInv (d : Direction) {s : State} (h : TableInv s) :
    TableInv (trainTakesDetector d s) := by
  unfold trainTakesDetector
  split
  · split
    · have hopen := openTrain_tableInv h ‹_› d s.openStanding le_rfl (by decide)
      exact (sameTable_openFrame (offer_frame .train _ _ _).sameTable _).inv hopen
    · exact (restartClose_sameTable s).inv h
    · exact (restartClose_sameTable s).inv h
  · exact h

/-- An abandonment frees every entry and keeps the counts in range (R36, R105, R164). -/
theorem enterAbandoned_tableInv (r : Nat) {s : State} (h : TableInv s) : TableInv (enterAbandoned r s) := by
  have hk := enterAbandoned_keeps r s
  have hle : min (r - 1) s.highestKnown ≤ 65535 := (Nat.min_le_right _ _).trans (highestKnown_le h)
  have hw : TableWf (abandonCut r s).table := handUpTo_wf _ (by rw [abandonBegun_table]; exact h.table.1) hle
  refine tableInv_free ?_ ?_ ?_ ?_ (by simp [hk.wheel]) (by simp [hk.pass])
  all_goals rw [enterAbandoned_table]
  · exact hw.next
  · exact hw.highest
  · exact hw.handed

theorem abandonAnnounced_tableInv (r : Nat) {s : State} (h : TableInv s) : TableInv (abandonAnnounced r s) :=
  enterAbandoned_tableInv r ((offer_frame _ _ _ s).sameTable.inv h)

/-- A close leaves every entry FREE: in RUNNING the flush reaches the highest opened ordinal (R104, R106). -/
theorem closeFlush_tableInv {s : State} (h : TableInv s) : TableWf (closeFlush s.highestKnown (closeBegun s)).table ∧
    (closeFlush s.highestKnown (closeBegun s)).table.slots = Vector.replicate 16 .free := by
  obtain ⟨l, hl⟩ := closeBegun_eq s
  have htable : (closeBegun s).table = s.table := by rw [hl]
  have hstate : (closeBegun s).train.state = s.train.state := by rw [hl]
  by_cases hr : s.train.state = .running
  · have hw : TableWf (closeBegun s).table := htable ▸ h.table.1
    have hle := highestKnown_le h
    have hhigh : (closeBegun s).table.highestOpened ≤ s.highestKnown := by
      rw [htable, highestKnown_eq]
      exact le_max_left _ _
    rw [closeFlush_running _ _ (hstate.trans hr), closeVehicle_table]
    exact ⟨handUpTo_wf _ hw hle, slots_eq_free (flushTo_free hw hle hhigh)⟩
  · rw [closeFlush_idle _ _ (by rwa [hstate]), htable]
    exact ⟨h.table.1, h.freeSlots hr⟩

theorem closeTrain_tableInv {s : State} (h : TableInv s) : TableInv (closeTrain s) := by
  obtain ⟨hw, hf⟩ := closeFlush_tableInv h
  have hk := closeKeeps s _ (closeFlush_frame s.highestKnown _)
  rw [closeTrain_eq]
  exact tableInv_free hf hw.next hw.highest hw.handed (by simp [hk.wheel]) (by simp [hk.pass])

theorem closeTimerExpiry_tableInv {s : State} (h : TableInv s) : TableInv (closeTimerExpiry s) := by
  unfold closeTimerExpiry
  split
  · exact closeTrain_tableInv h
  · exact h

/-! ### Contributions and decisions -/

/-- What `TableFrame` allows keeps the counter and the snapshot in range. -/
theorem TableInv.framed {s t : State} (h : TableInv s) (hf : TableFrame s t) (ht : TableSettled t)
    (hr : s.train.state = .running) : TableInv t := by
  obtain ⟨_, _, _, _, _, _, _, _, _, rfl⟩ := hf
  exact (tableInv_iff _).2 ⟨ht, h.counter, h.snapshot, fun hn => absurd hr hn⟩

theorem takeContribution_idle (p : Pos) (q : Partial) (s : State) (h : s.train.state ≠ .running) :
    takeContribution p q s = s := if_neg (by simp [h])

theorem takeContribution_tableInv {s : State} (h : TableInv s) (p : Pos) {q : Partial} (hq : q.ordinal ≤ 65535) :
    TableInv (takeContribution p q s) := by
  by_cases hr : s.train.state = .running
  · exact h.framed (takeContribution_frame p q s) (takeContribution_keeps h.table p hq) hr
  · rwa [takeContribution_idle p q s hr]

theorem handOn_tableInv {s : State} (h : TableInv s) {q : Partial} (hq : q.ordinal ≤ 65535) :
    TableInv (handOn q s) := by
  unfold handOn
  split
  · exact takeContribution_tableInv ((offer_frame _ _ _ s).sameTable.inv h) _ hq
  · exact h

theorem deadlineExpiry_tableInv (i : Fin 16) {s : State} (h : TableInv s) : TableInv (deadlineExpiry i s) := by
  unfold deadlineExpiry
  split
  · rename_i c d hi
    split
    · have hr : s.train.state = .running := by_contra fun hn => by simp [h.free hn i] at hi
      obtain ⟨hf, hc, -⟩ := h.table.1.opened hi
      exact h.framed ((decideEntry_frame _ _ _ s).trans (handChain_frame _))
        ⟨handChain_wf (decideEntry_wf h.table.1 hf hc .deadline), handChain_settles _⟩ hr
    · exact h
  · exact h
  · exact h

/-! ### Detector events -/

/-- A passage that ends leaves no snapshot, and its partial keeps the table (R41, R56). -/
theorem endPassage_tableInv {s : State} (h : TableInv s) {q : Partial} (hq : q.ordinal ≤ 65535) (d : Option Dwell)
    (v : Option PrevAxle) :
    TableInv (handOn q (endPassage q { s with wheel := { s.wheel with dwell := d, prev := v } })) := by
  obtain ⟨⟨hw, hs⟩, hc, -, hf⟩ := (tableInv_iff s).1 h
  have hend : TableInv (endPassage q { s with wheel := { s.wheel with dwell := d, prev := v } }) := by
    refine (tableInv_iff _).2 ⟨⟨hw, ?_⟩, hc, fun n hn => ?_, hf⟩
    · rw [handStep_none_iff] at hs ⊢
      exact hs
    · cases hn
  exact handOn_tableInv hend hq

theorem takeExit_tableInv {s : State} (h : TableInv s) : TableInv (takeExit s) := by
  unfold takeExit
  split
  · rename_i d n _ hn
    exact endPassage_tableInv h (h.snapshot n hn).2 none _
  · exact h

theorem endOpenDwell_tableInv {s : State} (h : TableInv s) : TableInv (endOpenDwell s) := by
  unfold endOpenDwell
  split
  · rename_i d n _ hn
    exact endPassage_tableInv h (h.snapshot n hn).2 none _
  · exact h

theorem TableFrame.wheel {s t : State} (h : TableFrame s t) : t.wheel = s.wheel := by
  obtain ⟨_, _, _, _, _, _, _, _, _, rfl⟩ := h
  rfl

theorem endOpenDwell_counter (s : State) : (endOpenDwell s).wheel.counter = s.wheel.counter := by
  unfold endOpenDwell
  split
  · rename_i d n _ _
    have hw : (breakDwell d n s).wheel = _ := (handOn_frame _ _).wheel
    exact (congrArg WheelTimer.counter hw :)
  · rfl

/-- The own counter rises by one and the chain takes the holes that it brings due (R25, R101). -/
theorem openDwell_tableInv {s : State} (h : TableInv s) (hr : s.train.state = .running) (hc : s.wheel.counter < 65535) :
    TableInv (openDwell s) := by
  unfold openDwell
  dsimp only
  generalize hu : openPassage _ _ = u
  have hsettled : TableSettled (handChain u) := ⟨handChain_wf (by rw [← hu]; exact h.table.1), handChain_settles u⟩
  obtain ⟨_, _, _, _, _, _, _, _, _, hv⟩ := handChain_frame u
  rw [hv] at hsettled ⊢
  rw [← hu] at hsettled ⊢
  refine (tableInv_iff _).2 ⟨hsettled, hc, fun n hn => ?_, fun hn => absurd hr hn⟩
  cases hn
  exact ⟨Nat.le_add_left _ _, hc⟩

theorem takeEntry_tableInv {s : State} (h : TableInv s) (hr : s.train.state = .running) : TableInv (takeEntry s) := by
  unfold takeEntry
  split
  · exact abandonAnnounced_tableInv _ h
  · rename_i hc
    exact openDwell_tableInv (endOpenDwell_tableInv h) ((endOpenDwell_calm s).state.trans hr)
      (by rw [endOpenDwell_counter]; exact Nat.lt_of_not_le hc)

theorem wheelTakes_tableInv (d : Detector) (dir : Direction) {s : State} (h : TableInv s) :
    TableInv (wheelTakes d dir s) := by
  unfold wheelTakes
  split
  · rename_i hr
    split
    · split
      · exact takeEntry_tableInv h (eq_of_beq (Bool.and_eq_true _ _ ▸ hr).2)
      · exact takeExit_tableInv h
    · exact abandonAnnounced_tableInv _ h
  · exact h

theorem reported_sameTable (d : Detector) (s : State) : SameTable s (reported d s) :=
  ⟨rfl, setHold_counter _ d _, rfl, rfl, rfl⟩

theorem detectorEvent_tableInv (d : Detector) (dir : Direction) {s : State} (h : TableInv s) :
    TableInv (detectorEvent d dir s) := by
  unfold detectorEvent
  split
  · exact wheelTakes_tableInv d dir (trainTakesDetector_tableInv dir ((reported_sameTable d s).inv h))
  · exact h

end Sys2Proof.Machine
end

section
/-! Received frames, and every step: the Consensus Table's invariant is kept. -/

namespace Sys2Proof.Machine

/-! ### Received frames -/

/-- A frame that reaches its delivery or not keeps the invariant that its delivery keeps (R68, R70, R71). -/
theorem receiveFrame_tableInv (k : Kind) (f : RxFrame) {deliver : State → State}
    (hd : ∀ u, TableInv u → TableInv (deliver u)) {s : State} (h : TableInv s) :
    TableInv (receiveFrame k f deliver s) := by
  have hmark : TableInv (otherPartyStartMark 0 s) := (otherPartyStartMark_sameTable 0 s).inv h
  unfold receiveFrame checkFrame
  dsimp only
  split
  · have hend := (sameTable_link (otherPartyStartMark 0 s)
      { (otherPartyStartMark 0 s).link with state := .idle, recessive := 0 }).inv hmark
    split
    · split
      · split
        · exact (setFault_sameTable _ _).inv hend
        · exact hd _ (hend.same ⟨rfl, rfl, rfl, rfl, rfl⟩)
      · exact hend
    · exact hend
  · exact hmark

theorem deliverStation_tableInv (k : Kind) (f : RxFrame) {others : State → State}
    (ho : ∀ u, TableInv u → TableInv (others u)) {s : State} (h : TableInv s) :
    TableInv (deliverStation k f others s) := by
  unfold deliverStation
  split
  · exact (rosterTake_sameTable k f _).inv (ho s h)
  · exact ho _ ((rosterTake_sameTable k f s).inv h)

/-- A received two-byte field is at most 65,535 (12_frame_formats.md). -/
theorem get2_le (p : List Byte) (i : Nat) : get2 p i ≤ 65535 := by
  have hlo := (p.getD i 0).isLt
  have hhi := (p.getD (i + 1) 0).isLt
  unfold get2 get1
  omega

theorem takeTrainOpen_tableInv (f : TrainFrame) {s : State} (h : TableInv s) : TableInv (takeTrainOpen f s) := by
  unfold takeTrainOpen
  split
  · split
    · exact openTrain_tableInv h ‹_› _ _ le_rfl (by decide)
    · split
      · unfold cancelOpen
        split
        · exact h
        · exact (sameTable_openFrame (cancelFrame_sameTable _ s) none).inv h
      · exact abandonAnnounced_tableInv _ h
    · exact h
  · exact h

theorem takeTrainReversal_tableInv (f : TrainFrame) {s : State} (h : TableInv s) :
    TableInv (takeTrainReversal f s) := by
  unfold takeTrainReversal
  split
  · exact enterAbandoned_tableInv _ h
  · exact h

theorem keepClose_sameTable (f : TrainFrame) (s : State) : SameTable s (keepClose f s) := by
  unfold keepClose
  split
  · exact ⟨rfl, rfl, rfl, rfl, rfl⟩
  · exact .refl s

theorem answerClose_sameTable (f : TrainFrame) (s : State) : SameTable s (answerClose f s) := by
  unfold answerClose
  split
  · exact .refl s
  · split
    · exact { cancelFrame_sameTable _ s with }
    · exact .refl s

theorem takeTrainClose_tableInv (f : TrainFrame) {s : State} (h : TableInv s) : TableInv (takeTrainClose f s) := by
  unfold takeTrainClose
  split
  · split
    · exact (answerClose_sameTable f s).inv h
    · exact (keepClose_sameTable f s).inv h
    · exact (keepClose_sameTable f s).inv h
  · exact h

theorem trainTakesAxle_tableInv {q : Partial} (hq : q.ordinal ≤ 65535) {s : State} (h : TableInv s) :
    TableInv (trainTakesAxle q s) := by
  unfold trainTakesAxle
  split
  · split
    · split
      · exact openTrain_tableInv h ‹_› _ _ le_rfl (by decide)
      · exact openTrain_tableInv h ‹_› _ _ (by omega) hq
    · exact (restartClose_sameTable s).inv h
    · exact (restartClose_sameTable s).inv h
  · exact h

theorem takeAxleFrame_tableInv (f : RxFrame) {s : State} (h : TableInv s) : TableInv (takeAxleFrame f s) :=
  takeContribution_tableInv (trainTakesAxle_tableInv (get2_le _ _) h) _ (get2_le _ _)

theorem takeTrainFrame_tableInv (n : Nat) (f : RxFrame) {take : TrainFrame → State → State}
    (ht : ∀ g u, TableInv u → TableInv (take g u)) {s : State} (h : TableInv s) :
    TableInv (takeTrainFrame n f take s) := by
  unfold takeTrainFrame
  dsimp only
  split
  · exact ht _ s h
  · exact h

/-- A TRAIN row keeps the invariant that its taker keeps (R72, R179). -/
theorem trainRow_tableInv (n : Nat) (f : RxFrame) {take : TrainFrame → State → State}
    (ht : ∀ g u, TableInv u → TableInv (take g u)) {s : State} (h : TableInv s) :
    TableInv (receiveFrame .train f (deliverStation .train f (takeTrainFrame n f take)) s) :=
  receiveFrame_tableInv _ f (fun _ => deliverStation_tableInv _ f fun _ => takeTrainFrame_tableInv n f ht) h

/-! ### Every command, every step -/

theorem effect_tableInv (c : Instr) {s : State} (h : TableInv s) : TableInv (effect c s) := by
  cases c with
  | powerOnReset pos cnt sec => exact powerOn_tableInv _ s
  | samplePair l r => exact (samplePair_sameTable l r s).inv h
  | zeroCaptureComplete l r => exact (zeroCaptureComplete_sameTable l r s).inv h
  | settlingComplete => exact (settlingComplete_sameTable s).inv h
  | quietTimerExpiry => exact (quietTimerExpiry_sameTable s).inv h
  | dormantEntryComplete => exact (dormantEntryComplete_sameTable s).inv h
  | refreshTimerExpiry => exact (refreshTimerExpiry_sameTable s).inv h
  | wakeEvent w => exact (takeWake_sameTable w s).inv h
  | detectorEvent d dir => exact detectorEvent_tableInv d dir h
  | debounceHoldEnd d => exact (debounceHoldEnd_sameTable d s).inv h
  | closeTimerExpiry => exact closeTimerExpiry_tableInv h
  | deadlineExpiry i => exact deadlineExpiry_tableInv i h
  | attemptStart n => exact (attemptStart_sameTable n s).inv h
  | arbitrationLost => exact (arbitrationLost_sameTable s).inv h
  | senderError n => exact (senderError_sameTable n s).inv h
  | attemptComplete => exact (attemptComplete_sameTable s).inv h
  | frameBroken b n => exact (frameBroken_sameTable b n s).inv h
  | restartFrame f => exact receiveFrame_tableInv _ f (fun _ => takeRestartFrame_tableInv f) h
  | calibrateFrame f => exact receiveFrame_tableInv _ f (fun u => (takeCalibrate_sameTable f u).inv) h
  | siteFrame f => exact receiveFrame_tableInv _ f (fun u => (takeSite_sameTable f u).inv) h
  | trainOpenFrame f => exact trainRow_tableInv _ f (fun g _ => takeTrainOpen_tableInv g) h
  | trainReversalFrame f => exact trainRow_tableInv _ f (fun g _ => takeTrainReversal_tableInv g) h
  | trainCloseFrame f => exact trainRow_tableInv _ f (fun g _ => takeTrainClose_tableInv g) h
  | axleFrame f =>
    exact receiveFrame_tableInv _ f (fun _ => deliverStation_tableInv _ f fun _ => takeAxleFrame_tableInv f) h
  | vehicleFrame f =>
    exact receiveFrame_tableInv _ f
      (fun _ => deliverStation_tableInv _ f fun u => (takeVehicleFrame_sameTable f u).inv) h
  | dissentFrame f => exact receiveFrame_tableInv _ f (fun u => (rosterTake_sameTable _ f u).inv) h
  | presenceFrame f => exact receiveFrame_tableInv _ f (fun u => (rosterTake_sameTable _ f u).inv) h
  | otherPartyStartMark n => exact (otherPartyStartMark_sameTable n s).inv h
  | labelSentUnbeaten => exact (labelSentUnbeaten_sameTable s).inv h

/-- A property that no waiting command matters to, and that a tick and each command's effect keep, is kept by every
step. -/
theorem stepKeeps_of_effect {P : State → Prop}
    (pending : ∀ (s : State) (l : List Instr), P s → P { s with pending := l })
    (tick : ∀ s, P s → P (advanceTick s)) (command : ∀ c s, P s → P (effect c s)) : StepKeeps P := by
  intro s t hs hstep
  unfold step at hstep
  split at hstep
  · rename_i c rest _
    have hp := pending s rest hs
    by_cases hc : isPowerOn c
    · obtain ⟨pos, cnt, sec, rfl⟩ := hc
      cases hstep
      exact command (.powerOnReset pos cnt sec) _ hp
    · rw [exec_inService c _ hc] at hstep
      cases hstep
      split
      · exact hp
      · exact command c _ hp
  · cases hstep
    unfold idleStep
    split
    · exact tick s hs
    · exact pending s _ hs

/-- Settles O14: each command keeps the table's form, and every change that could make a hand-over due runs the
chain. -/
theorem tableInvKept : Obligations.TableInvKept :=
  stepKeeps_of_effect (fun _ _ h => h.same ⟨rfl, rfl, rfl, rfl, rfl⟩) (fun _ h => h.same ⟨rfl, rfl, rfl, rfl, rfl⟩)
    fun c _ => effect_tableInv c

end Sys2Proof.Machine
end

section
/-! Lengths the station computes, and detector events in RUNNING. -/

namespace Sys2Proof.Machine

/-! ### Lengths -/

theorem heldInterval_eq (aged : Bool) (n : Nat) :
    heldInterval aged n = if aged = true then 2147483647 else min n 2147483647 := rfl

theorem dwellSpeed_pos (len : Nat) {d : Nat} (h : 0 < d) : dwellSpeed len d = min (len * 8192 / (10 * d)) 65535 :=
  if_neg h.ne'

theorem axleSpacing_prev (d : Dwell) (v : Nat) (p : PrevAxle) : axleSpacing d v (some p) = p.speed.map fun u =>
    min (heldInterval d.prevAged (ticksSince d.entry p.entry) * ((v + u) / 2) / 8192) 65535 := by
  unfold axleSpacing
  dsimp only
  cases p.speed <;> rfl

theorem deadlineTicks_pos (len r : Nat) {v : Nat} (h : 0 < v) :
    deadlineTicks len r (some v) = min (r * (len * 8192 / (10 * v)) + 410) 245760 := if_neg h.ne'

theorem closeTicks_pos (b3 : Nat) {v : Nat} (h : 0 < v) :
    closeTicks b3 (some v) = max 16384 (min (b3 * 8192 / v) 491520) := if_neg h.ne'

theorem restartClose_site (s : State) {st : Site} (h : s.conf.site = some st) : restartClose s =
    { s with train := { s.train with
        closeTimer := some (s.tick + BitVec.ofNat 32 (closeTicks st.b3 s.closeSpeed)) } } := by
  have hb : s.siteValue 0 Site.b3 = st.b3 := by rw [siteValue_getD, h]; rfl
  rw [restartClose, hb]
  rfl

/-- Settles O37: each formula at its clamps, at an absent speed and at speed 0. -/
theorem measuredLengths : Obligations.MeasuredLengths := by
  refine ⟨⟨fun _ => rfl, fun len d h => dwellSpeed_pos len h, fun now d => heldInterval_eq _ _, fun _ _ => rfl,
    fun d v p hp => ?_, fun d v u p hp => ?_⟩, fun len r v h => ?_, fun _ _ => ⟨rfl, rfl⟩,
    fun b3 v h => closeTicks_pos b3 h, fun _ => ⟨rfl, rfl⟩, fun s st h => restartClose_site s h⟩
  · rw [axleSpacing_prev, hp]
    rfl
  · rw [axleSpacing_prev, hp, heldInterval_eq]
    rfl
  · rw [deadlineTicks_pos len r h, Nat.min_def]

/-! ### A report in RUNNING -/

/-- The station with an accepted report's hold, wake flag and close timer (R7, R22, R160). -/
def reportTaken (d : Detector) (s : State) : State := restartClose (reported d s)

theorem debounce_site (s : State) {st : Site} (h : s.conf.site = some st) : s.debounce = st.debounce := by
  rw [State.debounce, siteValue_getD, h]
  rfl

theorem reportTaken_eq (d : Detector) (s : State) {st : Site} (h : s.conf.site = some st) : reportTaken d s =
    { restartClose s with
      rc := { s.rc with detectorWake := true }
      wheel := s.wheel.setHold d (some (s.tick + BitVec.ofNat 32 (st.debounce - 1))) } := by
  rw [reportTaken, reported, debounce_site s h]
  rfl

/-- In RUNNING the Train Sequencer restarts the close timer and the Wheel Timer takes the report (R23, R160). -/
theorem exec_detectorEvent_running (d : Detector) (dir : Direction) (s : State) (hs : s.strapFault = false)
    (hover : s.holdOver d) {st : Site} (hsite : s.conf.site = some st) (hr : s.train.state = .running) :
    exec (.detectorEvent d dir) s = .next (wheelTakes d dir (reportTaken d s)) := by
  have hh : (reported d s).holdsTrains = true := holdsTrains_of_site _ (by simp [reported, hsite])
  have hrun : (reported d s).train.state = .running := hr
  rw [exec_detectorEvent d dir s hs, detectorEvent_accepted d dir s hover, acceptDetector_eq, trainTakesDetector,
    if_pos hh, hrun]
  rfl

section Running
variable (d : Detector) (dir : Direction) (s : State) (hs : s.strapFault = false) (hover : s.holdOver d) {st : Site}
  (hsite : s.conf.site = some st) (hr : s.train.state = .running)
include hs hover hsite hr

theorem exec_detectorEvent_forward (hd : dir = s.train.dir) : exec (.detectorEvent d dir) s =
    .next (if isEntry dir d = true then takeEntry (reportTaken d s) else takeExit (reportTaken d s)) := by
  have hh : (reportTaken d s).holdsTrains = true := (holdsTrains_eq _).trans (congrArg Option.isSome hsite)
  rw [exec_detectorEvent_running d dir s hs hover hsite hr, wheelTakes_running d dir _ hh hr hd]

/-- A report of the other direction abandons the train (R35). -/
theorem exec_detectorEvent_reversal (hd : dir ≠ s.train.dir) : exec (.detectorEvent d dir) s =
    .next (abandonAnnounced (min (s.wheel.counter + 1) 65535) (reportTaken d s)) := by
  have hh : (reportTaken d s).holdsTrains = true := (holdsTrains_eq _).trans (congrArg Option.isSome hsite)
  have hrun : (reportTaken d s).train.state = .running := hr
  have hcount : (reportTaken d s).reversalOrdinal = min (s.wheel.counter + 1) 65535 :=
    congrArg (fun n => min (n + 1) 65535) (setHold_counter s.wheel d _)
  rw [exec_detectorEvent_running d dir s hs hover hsite hr, wheelTakes, if_pos (by simp [hh, hrun]),
    if_neg (by exact hd), hcount]

end Running

/-! ### Partials and dwells -/

theorem takeExit_dwell (s : State) {o : Dwell} {m : Snapshot} (ho : s.wheel.dwell = some o)
    (hm : s.pass.snapshot = some m) : takeExit s = closeDwell o m s := by
  unfold takeExit
  rw [ho, hm]

theorem endOpenDwell_dwell (s : State) {o : Dwell} {m : Snapshot} (ho : s.wheel.dwell = some o)
    (hm : s.pass.snapshot = some m) : endOpenDwell s = breakDwell o m s := by
  unfold endOpenDwell
  rw [ho, hm]

/-- Outside CONTRIBUTING a partial goes nowhere (R56). -/
theorem handOn_dropped (q : Partial) (s : State) (h : s.train.standing ≠ .contributing) : handOn q s = s :=
  if_neg (by simp [h])

/-- At CONTRIBUTING a partial's AXLE frame is offered, then the partial is the own contribution (R56, R57). -/
theorem handOn_contributes (q : Partial) (s : State) (hr : s.train.state = .running)
    (h : s.train.standing = .contributing) : handOn q s =
      takeContribution s.own q (offer .axle (BitVec.ofNat 6 q.ordinal) (axlePayload q) s).1 :=
  if_pos (by simp [h, hr])

/-- A dwell opens (R25, R38, R39), `aged` telling of the previous axle's interval (R33). -/
theorem openDwell_eq (s : State) : openDwell s = handChain
    { s with wheel := { s.wheel with
               counter := s.wheel.counter + 1
               dwell := some ⟨s.wheel.counter + 1, s.tick, false, (s.wheel.prev.map PrevAxle.aged).getD false⟩ }
             pass := { s.pass with buffer := s.openingBuffer
                                   snapshot := some (s.entrySnapshot (s.wheel.counter + 1)) } } := by
  unfold openDwell
  cases s.wheel.prev <;> rfl

/-- With no DECIDED entry the hand-over chain changes nothing (R100, R101). -/
theorem handChain_undecided (s : State)
    (h : ∀ (i : Fin 16) (c : Collecting) (a : ConsensusAxle), s.table.slots[i] ≠ .decided c a) : handChain s = s := by
  refine handChain_settled s ((handStep_none_iff s).2 fun hdue => ?_)
  obtain ⟨o, ho, -⟩ := hdue.decided
  obtain ⟨i, hi⟩ := mem_decidedOrdinals_iff.1 ho
  cases hslot : s.table.slots[i] with
  | free => simp [hslot, Slot.decidedOrdinal?] at hi
  | opened c d => simp [hslot, Slot.decidedOrdinal?] at hi
  | decided c a => exact h i c a hslot

/-! ### DETECTOR_EVENT as an exit -/

theorem reportTaken_dwell (d : Detector) (s : State) : (reportTaken d s).wheel.dwell = s.wheel.dwell := by
  cases d <;> rfl

/-- The partial of the open dwell `o` that exits now (R27, R31 to R33, R52, R54). -/
def exitPartial (o : Dwell) (m : Snapshot) (s : State) : Partial :=
  closedPartial s.conf.site m s.pass.buffer s.train.dir (dwellLength s.tick o)
    (dwellSpeed s.conf.straps.length (dwellLength s.tick o))
    (axleSpacing o (dwellSpeed s.conf.straps.length (dwellLength s.tick o)) s.wheel.prev) (s.pass.faults != noFaults)

/-- The station whose dwell `o` has closed, its partial not yet handed on (R31, R32, R34, R41, R52, R55). -/
def exited (d : Detector) (o : Dwell) (s : State) : State :=
  let v := dwellSpeed s.conf.straps.length (dwellLength s.tick o)
  { reportTaken d s with
    wheel := { (reportTaken d s).wheel with dwell := none, prev := some ⟨o.entry, some v, o.aged⟩ }
    pass := { s.pass with buffer := [], snapshot := none, faults := noFaults, latestSpeed := some v } }

theorem closeDwell_eq (d : Detector) (o : Dwell) (m : Snapshot) (s : State) :
    closeDwell o m (reportTaken d s) = handOn (exitPartial o m s) (exited d o s) := by cases d <;> rfl

/-- Settles O40: an exit with no dwell, then the partial outside and at CONTRIBUTING. -/
theorem detectorExit : Obligations.DetectorExit := by
  intro s st d dir hs hover hsite hr hd hexit u held
  have hn : ¬ isEntry dir d = true := by
    rw [isEntry_iff]
    rintro (⟨hdir, he⟩ | ⟨hdir, he⟩) <;> simp [hdir, he] at hexit
  have hx := exec_detectorEvent_forward d dir s hs hover hsite hr hd
  rw [if_neg hn] at hx
  refine ⟨fun hnone => ?_, ?_⟩
  · rw [hx, takeExit_noDwell _ ((reportTaken_dwell d s).trans hnone), reportTaken_eq d s hsite]
  · intro o m ho hm len v q t
    have hq : exitPartial o m s = q := by
      rw [exitPartial, hsite, ← hd]
    have ht : exited d o s = t := by
      rw [exited, reportTaken_eq d s hsite]
      cases d <;> rfl
    rw [takeExit_dwell _ ((reportTaken_dwell d s).trans ho) hm, closeDwell_eq, hq, ht] at hx
    refine ⟨fun hst => ?_, fun hst => ⟨?_, fun hroom => ?_⟩⟩
    · rw [hx, handOn_dropped q t hst]
    · rw [hx, handOn_contributes q t hr hst]
      rfl
    · exact congrArg Prod.fst (offer_room .axle _ _ t hroom)

/-! ### DETECTOR_EVENT as an entry -/

/-- The partial of a dwell broken by a further entry (R29, R52, R53). -/
def brokenPartialOf (m : Snapshot) (s : State) : Partial :=
  brokenPartial m s.train.dir (s.pass.faults != noFaults)

/-- The station whose dwell `o` is broken, its partial not yet handed on (R29, R34, R41, R52, R55). -/
def broke (d : Detector) (o : Dwell) (s : State) : State :=
  { reportTaken d s with
    wheel := { (reportTaken d s).wheel with dwell := none, prev := some ⟨o.entry, none, o.aged⟩ }
    pass := { s.pass with buffer := [], snapshot := none, faults := noFaults, latestSpeed := none } }

theorem breakDwell_eq (d : Detector) (o : Dwell) (m : Snapshot) (s : State) :
    breakDwell o m (reportTaken d s) = handOn (brokenPartialOf m s) (broke d o s) := by cases d <;> rfl

theorem takeEntry_opens (s : State) (h : s.wheel.counter < 65535) : takeEntry s = openDwell (endOpenDwell s) :=
  if_neg (Nat.not_le.2 h)

/-- The dwell that opens after a broken one reads the clock, the zeros, the settings and the previous axle, which the
hand-over of the broken partial leaves (R25, R33, R38, R39). -/
theorem openDwell_framed {b t : State} (h : TableFrame b t) : openDwell t = handChain
    { t with wheel := { t.wheel with
               counter := b.wheel.counter + 1
               dwell := some ⟨b.wheel.counter + 1, b.tick, false, (b.wheel.prev.map PrevAxle.aged).getD false⟩ }
             pass := { t.pass with buffer := b.openingBuffer
                                   snapshot := some (b.entrySnapshot (b.wheel.counter + 1)) } } := by
  obtain ⟨_, _, _, _, _, _, _, _, _, rfl⟩ := h
  exact openDwell_eq _

/-- Settles O39: an entry with no dwell open, one that breaks a dwell, and the chain without a DECIDED entry. -/
theorem detectorEntry : Obligations.DetectorEntry := by
  refine ⟨?_, handChain_undecided⟩
  intro s st d dir hs hover hsite hr hd hentry hc u n held snap first
  have hcount : (reportTaken d s).wheel.counter = s.wheel.counter := setHold_counter s.wheel d _
  have hx := exec_detectorEvent_forward d dir s hs hover hsite hr hd
  rw [if_pos ((isEntry_iff dir d).2 hentry), takeEntry_opens _ (by rwa [hcount])] at hx
  refine ⟨fun hnone => ?_, ?_⟩
  · rw [hx, endOpenDwell_noDwell _ ((reportTaken_dwell d s).trans hnone), openDwell_eq, reportTaken_eq d s hsite]
    cases d <;> rfl
  · intro o m ho hm q broken entered
    have hb : broke d o s = broken := by
      rw [broke, reportTaken_eq d s hsite]
      cases d <;> rfl
    have hframe (t : State) (h : TableFrame broken t) : openDwell t = entered t := by
      rw [openDwell_framed h]
      cases d <;> rfl
    rw [endOpenDwell_dwell _ ((reportTaken_dwell d s).trans ho) hm, breakDwell_eq, hb] at hx
    refine ⟨fun hst => ?_, fun hst => ⟨?_, fun hroom => ?_⟩⟩
    · rw [hx, handOn_dropped _ broken hst, hframe broken (.refl _)]
    · rw [hx, hframe _ (handOn_frame _ broken), handOn_contributes _ broken hr hst]
      rfl
    · exact congrArg Prod.fst (offer_room .axle _ _ broken hroom)

end Sys2Proof.Machine
end

section
/-! The causes of an abandonment. -/

namespace Sys2Proof.Machine

/-! ### The TRAIN-REVERSAL -/

theorem reversalPayload_eq (d : Direction) (number : BitVec 8) (r : Nat) :
    trainPayload trainReversalSubtype d number r 0 false false =
      [2, if d = .up then 0 else 1, number, BitVec.ofNat 8 (r / 256), BitVec.ofNat 8 r, 0, 0, 0] := by
  cases d <;> rfl

/-! ### Peers' frames -/

/-- In RUNNING a TRAIN-REVERSAL abandons the train at the ordinal it carries (R163). -/
theorem trainReversal_abandons (f : RxFrame) (t : State) (hsite : t.conf.site ≠ none) (hr : t.train.state = .running)
    (hsub : get1 f.payload 0 = 2) : takeTrainFrame trainReversalSubtype f takeTrainReversal t =
      enterAbandoned (get2 f.payload 3) t := by
  rw [takeTrainFrame_own trainReversalSubtype _ _ _ hsub]
  exact if_pos (by simp [holdsTrains_of_site t hsite, hr])

/-- In RUNNING a TRAIN-OPEN of the other direction abandons the train at the own counter plus one (R158, R163). -/
theorem trainOpen_abandons (f : RxFrame) (t : State) (hsite : t.conf.site ≠ none) (hr : t.train.state = .running)
    (hsub : get1 f.payload 0 = 1) (hd : dirOf (bitOf (get1 f.payload 1) 0) ≠ t.train.dir) :
    takeTrainFrame trainOpenSubtype f takeTrainOpen t = abandonAnnounced (min (t.wheel.counter + 1) 65535) t := by
  rw [takeTrainFrame_own trainOpenSubtype _ _ _ hsub, takeTrainOpen, if_pos (holdsTrains_of_site t hsite), hr]
  exact if_neg hd

theorem trainReversalFrame_accepted (s : State) (f : RxFrame) (hs : s.strapFault = false) (hl : s.listening)
    (ha : s.accepts .train f) : exec (.trainReversalFrame f) s =
      .next (deliverStation .train f (takeTrainFrame trainReversalSubtype f takeTrainReversal) s.delivered) :=
  (inService_next _ s hs).trans (congrArg _ (receiveFrame_accepted .train f _ s hl ha))

/-- At the counter's ceiling an entry abandons the train at ordinal 65,535 (R26). -/
theorem takeEntry_ceiling (s : State) (h : 65535 ≤ s.wheel.counter) : takeEntry s = abandonAnnounced 65535 s := if_pos h

/-- Settles O42: the two causes of a detector event, the two of a peer's frame, the frame that announces them. -/
theorem abandonmentCauses : Obligations.AbandonmentCauses := by
  refine ⟨?_, ?_, ?_⟩
  · intro s st d dir hs hover hsite hr held u
    have hu : reportTaken d s = u := reportTaken_eq d s hsite
    have hcount : (reportTaken d s).wheel.counter = s.wheel.counter := setHold_counter s.wheel d _
    refine ⟨fun hd => ?_, fun hd hentry hc => ?_⟩
    · rw [exec_detectorEvent_reversal d dir s hs hover hsite hr hd, hu]
      rfl
    · rw [exec_detectorEvent_forward d dir s hs hover hsite hr hd, if_pos ((isEntry_iff dir d).2 hentry),
        takeEntry_ceiling _ (by rwa [hcount]), hu]
      rfl
  · intro s f hs hl ha hsite hr
    refine ⟨fun hsub => ?_, fun hsub hd => ?_⟩
    · rw [trainReversalFrame_accepted s f hs hl ha, deliverStation_last,
        trainReversal_abandons f s.delivered hsite hr hsub,
        trainReversal_abandons f (rosterTake .train f s.delivered) hsite hr hsub]
    · intro r
      rw [trainOpenFrame_accepted s f hs hl ha, deliverStation_last,
        trainOpen_abandons f s.delivered hsite hr hsub hd,
        trainOpen_abandons f (rosterTake .train f s.delivered) hsite hr hsub hd]
      rfl
  · intro r s payload
    have hoffer : offerReversal r s = (offer .train (BitVec.ofNat 6 s.train.number.toNat) payload s).1 := by
      rw [offerReversal, offerTrain, reversalPayload_eq]
      rfl
    refine ⟨hoffer, fun hroom => ?_⟩
    rw [hoffer, offer_room .train _ _ s hroom]
    rfl

end Sys2Proof.Machine
end

section
/-! The wheel loads and the partial of a closed dwell: flag sets, the roundings, the weighing of a plateau. -/

namespace Sys2Proof.Machine

/-! ### Flag sets -/

theorem PartialFlag.bit_lt (f : PartialFlag) : f.bit < 14 := by cases f <;> decide

/-- The number of a flag is its place in section 3.5, so no two flags share one. -/
theorem PartialFlag.bit_eq_ctorIdx (f : PartialFlag) : f.bit = f.ctorIdx := by cases f <;> rfl

theorem PartialFlag.bit_inj {f g : PartialFlag} : f.bit = g.bit ↔ f = g := by
  rw [bit_eq_ctorIdx, bit_eq_ctorIdx]
  exact (Function.LeftInverse.injective PartialFlag.ofNat_ctorIdx).eq_iff

@[simp] theorem hasFlag_zero (f : PartialFlag) : hasFlag 0 f = false := BitVec.getLsbD_zero

@[simp] theorem hasFlag_or (a b : FlagSet) (f : PartialFlag) : hasFlag (a ||| b) f = (hasFlag a f || hasFlag b f) :=
  BitVec.getLsbD_or

@[simp] theorem hasFlag_flagWhen (b : Bool) (f g : PartialFlag) :
    hasFlag (flagWhen b f) g = (b && decide (f = g)) := by
  cases b with
  | false => exact hasFlag_zero g
  | true => simp [flagWhen, hasFlag, BitVec.getLsbD_twoPow, f.bit_lt, PartialFlag.bit_inj]

/-! ### The roundings of R45 -/

/-- The nearest integer is the floor or the one above it, and at an exact half the even one of the two. -/
theorem rounded_roundHalfEven (num : Int) {den : Nat} (h : 0 < den) :
    Rounded .nearest num den (roundHalfEven num den) := by
  have hsplit := Int.emod_add_mul_ediv num den
  have hlo := Int.emod_nonneg num (Int.natCast_ne_zero.2 h.ne')
  have hhi := Int.emod_lt_of_pos num (Int.natCast_pos.2 h)
  rw [mul_comm] at hsplit
  have hup := add_one_mul (num / (den : Int)) (den : Int)
  simp only [Rounded, roundHalfEven]
  split_ifs
  all_goals constructor
  all_goals omega

/-- The quotient cut toward zero (00_scope.md, Arithmetic). -/
theorem rounded_truncDiv (num : Int) {den : Nat} (h : 0 < den) :
    Rounded .towardZero num den (truncDiv num den) := by
  have hq (n : Nat) : n / den * den ≤ n ∧ n < (n / den + 1) * den :=
    ⟨Nat.div_mul_le_self n den, mul_comm den _ ▸ Nat.lt_mul_div_succ n h⟩
  obtain ⟨n, rfl | rfl⟩ := num.eq_nat_or_neg
  all_goals simp only [Rounded, truncDiv, Int.neg_tdiv, ← Int.ofNat_tdiv, Int.natAbs_neg, Int.natAbs_natCast,
    neg_mul_neg]
  all_goals exact ⟨(hq n).1, (hq n).2, by positivity⟩

/-- The raw load of a channel is the exact quotient of R44 under the snapshot's mode (R45). -/
theorem rounded_rawLoad (r : Rounding) (sp : Span) (z : Int) {np : Nat} (sum : Int) (h : 0 < np) :
    Rounded r ((256 * sum - np * z) * sp.mantissa) (np * 2 ^ (sp.exponent + 8)) (rawLoad r sp z np sum) := by
  have hden : 0 < np * 2 ^ (sp.exponent + 8) := by positivity
  cases r with
  | nearest => exact rounded_roundHalfEven _ hden
  | towardZero => exact rounded_truncDiv _ hden

/-! ### The weighing of a plateau -/

/-- The left wheel load before the clamps (R44, R45). -/
def rawLeft (w : Weighing) (n : Snapshot) (ps : List Pair) : Int :=
  rawLoad w.rounding w.spanL n.zL ps.length (ps.map fun p => p.left.toInt).sum

/-- The right wheel load before the clamps (R44, R45). -/
def rawRight (w : Weighing) (n : Snapshot) (ps : List Pair) : Int :=
  rawLoad w.rounding w.spanR n.zR ps.length (ps.map fun p => p.right.toInt).sum

/-- The clamped loads of a plateau (R46). -/
def plateauLoads (w : Weighing) (n : Snapshot) (ps : List Pair) : Loads :=
  ⟨clampLoad (rawLeft w n ps), clampLoad (rawRight w n ps)⟩

/-- Without a weighing or without a pair there are no loads, and NO_SAMPLES says so (R40, R47). -/
theorem weigh_absent (site : Option Site) (n : Snapshot) (ps : List Pair) (h : n.weighing = none ∨ ps = []) :
    weigh site n ps = (none, flagWhen true .noSamples) := by
  unfold weigh
  obtain h | rfl := h
  · rw [h]
  · split <;> rfl

theorem exists_weighing {n : Snapshot} {ps : List Pair} (h : ¬ (n.weighing = none ∨ ps = [])) :
    ∃ w, n.weighing = some w ∧ ps ≠ [] := by
  obtain ⟨hw, hp⟩ := not_or.1 h
  exact (Option.ne_none_iff_exists'.1 hw).imp fun _ hw => ⟨hw, hp⟩

section Weighed
variable {n : Snapshot} {w : Weighing} {ps : List Pair} (hw : n.weighing = some w) (hp : ps ≠ [])
include hw hp

theorem weigh_present (site : Option Site) : weigh site n ps = (some (plateauLoads w n ps),
    flagWhen (ps.length ≤ 7) .short ||| flagWhen (ps.any Pair.clipped) .overrange |||
      flagWhen (negativeLoad (rawLeft w n ps) || negativeLoad (rawRight w n ps)) .negative |||
      flagWhen (saturatedLoad (rawLeft w n ps) || saturatedLoad (rawRight w n ps)) .saturated |||
      flagWhen (ps.any fun p => !p.settled) .unsettled |||
      qualityFlags site n (ps.map fun p => p.left.toInt) (ps.map fun p => p.right.toInt) (plateauLoads w n ps)) := by
  unfold weigh
  rw [hw]
  exact if_neg (by simpa using hp)

theorem weigh_loads (site : Option Site) : (weigh site n ps).1 = some (plateauLoads w n ps) := by
  rw [weigh_present hw hp]

end Weighed

/-- The quality checks set no flag but IMPACT, IMBALANCE and OVERLOAD (section 3.4). -/
theorem hasFlag_qualityFlags_other (site : Option Site) (n : Snapshot) (ls rs : List Int) (l : Loads)
    {f : PartialFlag} (h : f ∉ [PartialFlag.impact, .imbalance, .overload]) :
    hasFlag (qualityFlags site n ls rs l) f = false := by
  cases site with
  | none => exact hasFlag_zero f
  | some st => simp_all [qualityFlags, eq_comm]

theorem weigh_loads_none_iff (site : Option Site) (n : Snapshot) (ps : List Pair) :
    (weigh site n ps).1 = none ↔ n.weighing = none ∨ ps = [] := by
  by_cases h : n.weighing = none ∨ ps = []
  · simp [weigh_absent site n ps h, h]
  · obtain ⟨w, hw, hp⟩ := exists_weighing h
    simp [weigh_loads hw hp, h]

/-- The clamp of R46 on whole numbers. -/
theorem clampLoad_eq (w : Int) : clampLoad w = (min (max w 0) 65535).toNat := by
  unfold clampLoad Config.max16
  omega

theorem negativeLoad_iff (w : Int) : negativeLoad w = true ↔ w < 0 := decide_eq_true_iff

theorem saturatedLoad_iff (w : Int) : saturatedLoad w = true ↔ 65535 < w := decide_eq_true_iff

/-- Settles O20: each raw load is the rounded quotient, and the clamps and their flags read it. -/
theorem wheelLoads : Obligations.WheelLoads := by
  refine ⟨fun site n w ps hw hp => ?_, fun s a => ⟨rfl, rfl, rfl⟩⟩
  have hnp : 0 < ps.length := List.length_pos_iff.2 hp
  refine ⟨rawLeft w n ps, rawRight w n ps, rounded_rawLoad _ _ _ _ hnp, rounded_rawLoad _ _ _ _ hnp, ?_, ?_, ?_⟩
  · rw [weigh_loads hw hp, plateauLoads, clampLoad_eq, clampLoad_eq]
  · simp [weigh_present hw hp, hasFlag_qualityFlags_other, negativeLoad_iff]
  · simp [weigh_present hw hp, hasFlag_qualityFlags_other, saturatedLoad_iff]

end Sys2Proof.Machine
end

section
/-! The quality checks and the flags of a closed dwell's partial. -/

namespace Sys2Proof.Machine

/-! ### The quality checks -/

theorem absDiff_eq_natAbs (a b : Nat) : absDiff a b = ((a : Int) - b).natAbs := by
  unfold absDiff
  omega

/-- The peak of a list is its greatest member (R43). -/
theorem maxOfInt_eq_iff {l : List Int} (h : l ≠ []) (m : Int) : maxOfInt l = m ↔ m ∈ l ∧ ∀ x ∈ l, x ≤ m := by
  cases l with
  | nil => exact absurd rfl h
  | cons x xs => rw [← List.max?_eq_some_iff, List.max?_cons', Option.some_inj, maxOfInt]

/-- A condition holds of the peak when it holds of a greatest value (R43). -/
theorem peak_iff (v : Pair → Int) (C : Int → Prop) {ps : List Pair} (hp : ps ≠ []) :
    C (maxOfInt (ps.map v)) ↔ ∃ p ∈ ps, (∀ q ∈ ps, v q ≤ v p) ∧ C (v p) := by
  have hpeak (m : Int) := maxOfInt_eq_iff (List.map_eq_nil_iff.not.2 hp : ps.map v ≠ []) m
  constructor
  · intro hC
    obtain ⟨hmem, hmax⟩ := (hpeak _).1 rfl
    obtain ⟨p, hps, hv⟩ := List.mem_map.1 hmem
    exact ⟨p, hps, fun q hq => hv ▸ hmax _ (List.mem_map_of_mem hq), hv ▸ hC⟩
  · rintro ⟨p, hps, hmax, hC⟩
    rwa [(hpeak (v p)).2 ⟨List.mem_map_of_mem hps, List.forall_mem_map.2 hmax⟩]

/-- IMPACT on one channel, read off the pair of the peak (R49). -/
theorem impactCheck_iff (limit : Nat) (z : Int) (v : Pair → Int) {ps : List Pair} (hp : ps ≠ []) :
    impactCheck limit (ps.map v).length (ps.map v).sum (maxOfInt (ps.map v)) z = true ↔
      0 < 256 * (ps.map v).sum - ps.length * z ∧ ∃ p ∈ ps, (∀ q ∈ ps, v q ≤ v p) ∧
        limit * (256 * (ps.map v).sum - ps.length * z) < (256 * v p - z) * 100 * ps.length := by
  rw [← peak_iff v (fun m => limit * (256 * (ps.map v).sum - ps.length * z) < (256 * m - z) * 100 * ps.length) hp]
  simp [impactCheck]

theorem imbalanceCheck_iff (limit : Nat) (l : Loads) : imbalanceCheck limit l = true ↔
    0 < l.left + l.right ∧ limit * (l.left + l.right) < ((l.left : Int) - l.right).natAbs * 100 := by
  simp [imbalanceCheck, Loads.axle, absDiff_eq_natAbs]

theorem overloadCheck_iff (limit : Nat) (l : Loads) :
    overloadCheck limit l = true ↔ 100 * limit < l.left + l.right := decide_eq_true_iff

/-- Settles O22: the plateau's own flags are no quality flags, and each check is read off its rule. -/
theorem qualityChecks : Obligations.QualityChecks := by
  intro st n w ps l hw hp hl sum impact
  obtain rfl : plateauLoads w n ps = l := Option.some_inj.1 ((weigh_loads hw hp _).symm.trans hl)
  refine ⟨?_, ?_, ?_⟩
  · simp [weigh_present hw hp, qualityFlags, imbalanceCheck_iff]
  · have hL : impact Pair.left n.zL ↔ _ := (impactCheck_iff st.impact n.zL (fun p => p.left.toInt) hp).symm
    have hR : impact Pair.right n.zR ↔ _ := (impactCheck_iff st.impact n.zR (fun p => p.right.toInt) hp).symm
    rw [hL, hR]
    simp [weigh_present hw hp, qualityFlags]
  · simp [weigh_present hw hp, qualityFlags, overloadCheck_iff]

/-! ### The partial of a closed dwell -/

/-- What NO_SAMPLES, SHORT, OVERRANGE and UNSETTLED say of a plateau (R40, R47). -/
theorem weigh_plateauFlags (site : Option Site) (n : Snapshot) (ps : List Pair) :
    (hasFlag (weigh site n ps).2 .noSamples = true ↔ n.weighing = none ∨ ps = []) ∧
    (hasFlag (weigh site n ps).2 .short = true ↔ n.weighing ≠ none ∧ 1 ≤ ps.length ∧ ps.length ≤ 7) ∧
    (hasFlag (weigh site n ps).2 .overrange = true ↔ n.weighing ≠ none ∧ ∃ p ∈ ps, p.clipped = true) ∧
    (hasFlag (weigh site n ps).2 .unsettled = true ↔ n.weighing ≠ none ∧ ∃ p ∈ ps, p.settled = false) := by
  by_cases h : n.weighing = none ∨ ps = []
  · rw [weigh_absent site n ps h]
    obtain hw | rfl := h
    · simp [hw]
    · simp
  · obtain ⟨w, hw, hp⟩ := exists_weighing h
    simp [weigh_present hw hp, hasFlag_qualityFlags_other, hw, hp, Nat.one_le_iff_ne_zero]

/-- The flags of the dwell, the snapshot and the fault set are not the plateau's to set (R42, R51, R52, R53). -/
theorem weigh_otherFlags (site : Option Site) (n : Snapshot) (ps : List Pair) {f : PartialFlag}
    (hf : f ∈ [PartialFlag.incomplete, .zeroWarn, .zeroLimit, .stationFault, .brokenDwell]) :
    hasFlag (weigh site n ps).2 f = false := by
  by_cases h : n.weighing = none ∨ ps = []
  · rw [weigh_absent site n ps h]
    fin_cases hf <;> rfl
  · obtain ⟨w, hw, hp⟩ := exists_weighing h
    rw [weigh_present hw hp]
    fin_cases hf <;> simp [hasFlag_qualityFlags_other]

/-- The plateau of R42 with the effective length and the guard written out. -/
theorem plateau_eq (e : Tick) (d : Nat) (buffer : List Pair) :
    plateau e d buffer = buffer.filter fun p => min d 65535 / 8 ≤ (p.stamp - e).toNat ∧
      (p.stamp - e).toNat < min d 65535 - min d 65535 / 8 := by
  simp only [Bool.decide_and]
  rfl

/-- The flags of a closed dwell's partial: the plateau's, then INCOMPLETE, the zero flags and STATION_FAULT (R42, R51,
R52). -/
theorem closedPartial_flag (site : Option Site) (n : Snapshot) (buffer : List Pair) (dir : Direction) (d speed : Nat)
    (spacing : Option Nat) (fault : Bool) (f : PartialFlag) :
    hasFlag (closedPartial site n buffer dir d speed spacing fault).flags f =
      (hasFlag (weigh site n (plateau n.entry d buffer)).2 f || decide (65535 < d) && decide (.incomplete = f) ||
        ((n.zstateL == .warn || n.zstateR == .warn) && decide (.zeroWarn = f) ||
          (n.zstateL == .limit || n.zstateR == .limit) && decide (.zeroLimit = f)) ||
        fault && decide (.stationFault = f)) := by
  simp only [closedPartial, zeroFlags, hasFlag_or, hasFlag_flagWhen]
  rfl

/-- Settles O21: the fields by definition, the plateau's flags from the weighing, the others from their sources. -/
theorem closedPartialFields : Obligations.ClosedPartialFields := by
  intro site n buffer dir d speed spacing fault q ps
  have hps : plateau n.entry d buffer = ps := plateau_eq n.entry d buffer
  have hloads : q.loads = (weigh site n ps).1 := hps ▸ rfl
  have hflag (f : PartialFlag) := hps ▸ closedPartial_flag site n buffer dir d speed spacing fault f
  obtain ⟨hnone, hshort, hover, hunsettled⟩ := weigh_plateauFlags site n ps
  have hother {f : PartialFlag} := weigh_otherFlags site n ps (f := f)
  refine ⟨rfl, rfl, rfl, rfl, hloads, hloads ▸ weigh_loads_none_iff site n ps, ?_, ?_, ?_, ?_, ?_, ?_, ?_, ?_, ?_, ?_⟩
  · intro f hf
    rw [hflag]
    fin_cases hf <;> simp
  · simpa [q, hflag] using hnone
  · simpa [q, hflag] using hshort
  · simpa [q, hflag] using hover
  · simpa [q, hflag] using hunsettled
  all_goals simp [q, hflag, hother]

end Sys2Proof.Machine
end

section
/-! The contents of AXLE, VEHICLE and DISSENT frames, read back. -/

namespace Sys2Proof.Machine

/-! ### Fields of a payload -/

theorem get1_byte1 (n : Nat) : get1 (byte1 n) 0 = n % 256 := BitVec.toNat_ofNat n 8

theorem get2_byte2 (n : Nat) : get2 (byte2 n) 0 = n % 65536 := by
  have h : get2 (byte2 n) 0 = n / 256 % 256 * 256 + n % 256 :=
    congrArg₂ (· * 256 + ·) (get1_byte1 (n / 256)) (get1_byte1 n)
  omega

theorem get3_byte3 (n : Nat) : get3 (byte3 n) 0 = n % 16777216 := by
  have h : get3 (byte3 n) 0 = n / 65536 % 256 * 65536 + n % 65536 :=
    (Nat.add_assoc ..).trans (congrArg₂ (· * 65536 + ·) (get1_byte1 (n / 65536)) (get2_byte2 n))
  omega

theorem bitAt_eq (b : Bool) (i : Nat) : bitAt b i = b.toNat * 2 ^ i := by
  cases b <;> simp [bitAt]

theorem bitOf_eq {n i : Nat} {b : Bool} (h : n / 2 ^ i % 2 = b.toNat) : bitOf n i = b := by
  cases b <;> simp [bitOf, h]

theorem dirCode_lt (d : Direction) : dirCode d < 2 := by cases d <;> decide

theorem dirOf_eq {n i : Nat} {d : Direction} (h : n / 2 ^ i % 2 = dirCode d) : dirOf (bitOf n i) = d := by
  cases d <;> simp [dirOf, bitOf, h, dirCode]

/-- A value sent beside a mark of absence is rebuilt with its absence (R178, R179). -/
theorem rebuilt_eq {α : Type} {o : Option α} {absent : Bool} {x : α} (ha : o = none ↔ absent = true)
    (hx : ∀ v, o = some v → x = v) : (if absent then none else some x) = o := by
  cases o with
  | none => rw [if_pos (ha.1 rfl)]
  | some v => rw [if_neg (by simp [← ha]), hx v rfl]

/-! ### AXLE frames -/

/-- The two-byte fields of an AXLE frame, in order (R177). -/
theorem get2_axlePayload (q : Partial) :
    get2 (axlePayload q) 0 = q.ordinal % 65536 ∧
    get2 (axlePayload q) 2 = (q.loads.map Loads.left).getD 0 % 65536 ∧
    get2 (axlePayload q) 4 = (q.loads.map Loads.right).getD 0 % 65536 ∧
    get2 (axlePayload q) 6 = q.speed.getD 0 % 65536 ∧ get2 (axlePayload q) 8 = q.spacing.getD 0 % 65536 ∧
    get2 (axlePayload q) 10 = axleFlagsWord q % 65536 :=
  ⟨get2_byte2 _, get2_byte2 _, get2_byte2 _, get2_byte2 _, get2_byte2 _, get2_byte2 _⟩

/-- The flags stand in the low fourteen bits, the spacing bit and the direction bit above them (R177). -/
theorem axleFlagsWord_parts (q : Partial) : axleFlagsWord q < 65536 ∧ BitVec.ofNat 14 (axleFlagsWord q) = q.flags ∧
    bitOf (axleFlagsWord q) 14 = q.spacing.isSome ∧ dirOf (bitOf (axleFlagsWord q) 15) = q.dir := by
  have hf : q.flags.toNat < 16384 := q.flags.isLt
  have hs := q.spacing.isSome.toNat_lt
  have hd := dirCode_lt q.dir
  have hw : axleFlagsWord q = dirCode q.dir * 32768 + q.spacing.isSome.toNat * 16384 + q.flags.toNat := by
    rw [axleFlagsWord, bitAt_eq]
    rfl
  refine ⟨by omega, BitVec.eq_of_toNat_eq ?_, bitOf_eq ?_, dirOf_eq ?_⟩
  · rw [BitVec.toNat_ofNat]
    omega
  all_goals omega

/-- An AXLE frame's receiver rebuilds the sender's partial (R54, R177 to R179). -/
theorem readAxle_axlePayload {q : Partial} (h : PartialWf q) : readAxle (axlePayload q) = q := by
  obtain ⟨hordinal, hleft, hright, hspeed, hspacing, hword⟩ := get2_axlePayload q
  obtain ⟨hlt, hflags, hbit, hdir⟩ := axleFlagsWord_parts q
  rw [Nat.mod_eq_of_lt hlt] at hword
  rw [Nat.mod_eq_of_lt (Nat.lt_succ_of_le h.ordinal)] at hordinal
  have loads : (if hasFlag q.flags .noSamples then none
      else some ⟨get2 (axlePayload q) 2, get2 (axlePayload q) 4⟩) = q.loads := by
    refine rebuilt_eq h.loadsAbsent fun l hl => ?_
    obtain ⟨hl2, hr2⟩ := h.loads l hl
    rw [hleft, hright, hl]
    exact congrArg₂ Loads.mk (Nat.mod_eq_of_lt (Nat.lt_succ_of_le hl2)) (Nat.mod_eq_of_lt (Nat.lt_succ_of_le hr2))
  have speed : (if hasFlag q.flags .brokenDwell then none else some (get2 (axlePayload q) 6)) = q.speed := by
    refine rebuilt_eq h.speedAbsent fun v hv => ?_
    rw [hspeed, hv]
    exact Nat.mod_eq_of_lt (Nat.lt_succ_of_le (h.speed v hv))
  have spacing : (if q.spacing.isSome then some (get2 (axlePayload q) 8) else none) = q.spacing := by
    cases hsp : q.spacing with
    | none => rfl
    | some v =>
      rw [hspacing, hsp]
      exact congrArg some (Nat.mod_eq_of_lt (Nat.lt_succ_of_le (h.spacing v hsp)))
  simp only [readAxle, hword, hordinal, hflags, hbit, hdir, loads, speed, spacing]

/-! ### VEHICLE frames -/

/-- The fields of a VEHICLE frame (R177). -/
theorem get_vehiclePayload (r : VehicleRecord) :
    get2 (vehiclePayload r) 0 = (r.ordinal * 16 + r.axleCount) % 65536 ∧ (vehiclePayload r).getD 2 0 = r.trainNo ∧
    get2 (vehiclePayload r) 3 = r.firstAxle % 65536 ∧ get1 (vehiclePayload r) 5 = groupByte r.groups % 256 ∧
    get3 (vehiclePayload r) 6 = r.gross % 16777216 ∧ get3 (vehiclePayload r) 9 = r.left % 16777216 ∧
    get2 (vehiclePayload r) 12 = r.speed.getD 65535 % 65536 ∧ get1 (vehiclePayload r) 14 = r.flags.code % 256 ∧
    get2 (vehiclePayload r) 15 = r.summary.toNat % 65536 :=
  ⟨get2_byte2 _, rfl, get2_byte2 _, get1_byte1 _, get3_byte3 _, get3_byte3 _, get2_byte2 _, get1_byte1 _,
    get2_byte2 _⟩

/-- The flag byte has one bit for each vehicle flag (R177). -/
theorem vehicleFlags_code (f : VehicleFlags) : f.code < 256 ∧ vehicleFlagsOf f.code = f := by
  obtain ⟨b0, b1, b2, b3, b4, b5, b6, b7⟩ := f
  have h0 := b0.toNat_lt
  have h1 := b1.toNat_lt
  have h2 := b2.toNat_lt
  have h3 := b3.toNat_lt
  have h4 := b4.toNat_lt
  have h5 := b5.toNat_lt
  have h6 := b6.toNat_lt
  have h7 := b7.toNat_lt
  simp only [VehicleFlags.code, vehicleFlagsOf, bitAt_eq, VehicleFlags.mk.injEq]
  refine ⟨by omega, bitOf_eq ?_, bitOf_eq ?_, bitOf_eq ?_, bitOf_eq ?_, bitOf_eq ?_, bitOf_eq ?_, bitOf_eq ?_,
    bitOf_eq ?_⟩
  all_goals omega

/-- A group size in range, or the 1 that stands beyond the count. -/
theorem groupSize_bounds {gs : List Nat} (h : ∀ g ∈ gs, 1 ≤ g ∧ g ≤ 4) (i : Nat) :
    1 ≤ gs.getD i 1 ∧ gs.getD i 1 ≤ 4 := by
  rw [List.getD_eq_getElem?_getD]
  cases hi : gs[i]? with
  | none => decide
  | some g => exact h g (List.mem_of_getElem? hi)

/-- The group byte's four fields (R177). -/
theorem groupByte_parts {gs : List Nat} (hlen : gs.length ≤ 3) (h : ∀ g ∈ gs, 1 ≤ g ∧ g ≤ 4) :
    groupByte gs < 256 ∧ groupByte gs / 64 = gs.length ∧ groupByte gs / 16 % 4 + 1 = gs.getD 0 1 ∧
    groupByte gs / 4 % 4 + 1 = gs.getD 1 1 ∧ groupByte gs % 4 + 1 = gs.getD 2 1 := by
  have h0 := groupSize_bounds h 0
  have h1 := groupSize_bounds h 1
  have h2 := groupSize_bounds h 2
  unfold groupByte
  omega

/-- A mean speed is below the 65,535 that is sent for its absence (R138, R178). -/
theorem meanSpeed_rebuilt {o : Option Nat} (h : ∀ v, o = some v → v ≤ 65534) :
    (if o.getD 65535 % 65536 == 65535 then none else some (o.getD 65535 % 65536)) = o := by
  cases o with
  | none => rfl
  | some v =>
    have hv := h v rfl
    rw [Option.getD_some, Nat.mod_eq_of_lt (by omega), if_neg (by rw [beq_iff_eq]; omega)]

/-- A vehicle record as its VEHICLE frame's receiver keeps it, without the right total (R177, R179). -/
def asReceived (p : Pos) (r : VehicleRecord) : PeerRecord :=
  { sender := p, ordinal := r.ordinal, trainNo := r.trainNo, firstAxle := r.firstAxle, axleCount := r.axleCount,
    groupCount := r.groups.length, sizes := [r.groups.getD 0 1, r.groups.getD 1 1, r.groups.getD 2 1],
    gross := r.gross, left := r.left, speed := r.speed, flags := r.flags, summary := r.summary }

theorem readVehicle_vehiclePayload (p : Pos) {r : VehicleRecord} (h : RecordWf r) :
    readVehicle p (vehiclePayload r) = asReceived p r := by
  obtain ⟨hlabel, htrain, hfirst, hgroups, hgross, hleft, hspeed, hflags, hsummary⟩ := get_vehiclePayload r
  obtain ⟨hgb, hcount, hs0, hs1, hs2⟩ := groupByte_parts h.groups.2 h.sizes
  obtain ⟨hcode, hread⟩ := vehicleFlags_code r.flags
  have hord := h.ordinal
  have haxles := h.axleCount
  have hfits : r.ordinal * 16 + r.axleCount < 65536 := by omega
  have hordinal : (r.ordinal * 16 + r.axleCount) / 16 = r.ordinal := by omega
  have hcountAxles : (r.ordinal * 16 + r.axleCount) % 16 = r.axleCount := by omega
  have hsum : r.summary.toNat < 16384 := r.summary.isLt
  rw [Nat.mod_eq_of_lt hfits] at hlabel
  rw [Nat.mod_eq_of_lt (Nat.lt_succ_of_le h.firstAxle)] at hfirst
  rw [Nat.mod_eq_of_lt hgb] at hgroups
  rw [Nat.mod_eq_of_lt (h.totals.2.trans_lt (by decide))] at hgross
  rw [Nat.mod_eq_of_lt (h.totals.1.trans_lt (by decide))] at hleft
  rw [Nat.mod_eq_of_lt hcode] at hflags
  rw [Nat.mod_eq_of_lt (hsum.trans (by decide))] at hsummary
  have speed := meanSpeed_rebuilt h.speed
  rw [← hspeed] at speed
  simp only [readVehicle, asReceived, hlabel, htrain, hfirst, hgroups, hgross, hleft, hflags, hsummary, speed, hordinal,
    hcountAxles, hcount, hs0, hs1, hs2, hread, BitVec.ofNat_toNat, BitVec.setWidth_eq]

/-- The received sizes within the received count are the sender's groups (R144, R179). -/
theorem sizes_take_length {gs : List Nat} (h : gs.length ≤ 3) :
    [gs.getD 0 1, gs.getD 1 1, gs.getD 2 1].take gs.length = gs := by
  match gs with
  | [] => rfl
  | [_] => rfl
  | [_, _] => rfl
  | [_, _, _] => rfl
  | _ :: _ :: _ :: _ :: _ => simp only [List.length_cons] at h; omega

theorem sameGroups_asReceived (own : VehicleRecord) (p : Pos) {r : VehicleRecord} (h : r.groups.length ≤ 3) :
    sameGroups own (asReceived p r) = true ↔ own.groups = r.groups := by
  simp only [sameGroups, asReceived, sizes_take_length h, Bool.and_eq_true, beq_iff_eq, and_iff_right_iff_imp]
  exact congrArg List.length

/-! ### DISSENT frames -/

theorem get1_dissentPayload (r : VehicleRecord) (peer : Pos) : get1 (dissentPayload r peer) 17 = peer.val :=
  (get1_byte1 peer.val).trans (Nat.mod_eq_of_lt (peer.isLt.trans (by decide)))

/-- Settles O18: each frame's fields are read at their places, where their ranges keep them whole. -/
theorem contentsReadBack : Obligations.ContentsReadBack := by
  constructor
  · intro q h
    obtain ⟨-, hleft, hright, hspeed, hspacing, -⟩ := get2_axlePayload q
    refine ⟨readAxle_axlePayload h, rfl, fun hl => ⟨?_, ?_⟩, fun hv => ?_, fun hv => ?_⟩
    · rw [hleft, hl]
      rfl
    · rw [hright, hl]
      rfl
    · rw [hspeed, hv]
      rfl
    · rw [hspacing, hv]
      rfl
  · intro r p peer h
    have hread := readVehicle_vehiclePayload p h
    exact ⟨hread, rfl, rfl, get1_dissentPayload r peer, rfl, fun own => hread ▸ sameGroups_asReceived own p h.groups.2⟩

end Sys2Proof.Machine
end

section
/-! The transmit queue: what the blocks can do to it, and that every step keeps its form. -/

namespace Sys2Proof.Machine

/-! ### Moves of the transmit queue -/

/-- What an offer or a cancellation can do to the Link Controller (R73, R74, R75): a frame of a station kind and of its
kind's length is offered, a frame that is not in attempt leaves, a cancellation is carried. -/
inductive QueueMove : LinkControl → LinkControl → Prop where
  | offered (l : LinkControl) (k : Kind) (seq : BitVec 6) (payload : List Byte) (station : 3 ≤ kindValue k)
      (fits : payload.length = payloadLength k) : QueueMove l (offeredLink k seq payload l)
  | leaves (l : LinkControl) (id : Nat) (waits : l.attempt ≠ some id) : QueueMove l (removeFrame id l)
  | carries (l : LinkControl) (sends : l.attempt.isSome = true) : QueueMove l { l with cancelled := true }

/-- `m` comes from `l` by any number of moves. -/
def QueueFollows (m l : LinkControl) : Prop := Relation.ReflTransGen QueueMove l m

theorem QueueFollows.refl (l : LinkControl) : QueueFollows l l := Relation.ReflTransGen.refl

theorem QueueFollows.trans {n m l : LinkControl} (g : QueueFollows n m) (h : QueueFollows m l) : QueueFollows n l :=
  Relation.ReflTransGen.trans h g

theorem QueueMove.follows {l m : LinkControl} (h : QueueMove l m) : QueueFollows m l := Relation.ReflTransGen.single h

/-! ### The form of the queue -/

theorem mem_removeFrame_ids {l : LinkControl} {id i : Nat} (h : i ∈ l.queue.map QFrame.id) (hi : i ≠ id) :
    i ∈ (removeFrame id l).queue.map QFrame.id := by
  obtain ⟨f, hf, rfl⟩ := List.mem_map.1 h
  exact List.mem_map_of_mem (List.mem_filter.2 ⟨hf, bne_iff_ne.2 hi⟩)

theorem QueueInv.enters {l : LinkControl} (h : QueueInv l) {k : Kind} (seq : BitVec 6) {payload : List Byte}
    (room : l.queue.length < 8) (station : 3 ≤ kindValue k) (fits : payload.length = payloadLength k) :
    QueueInv (enqueue k seq payload l) := by
  have hids : (enqueue k seq payload l).queue.map QFrame.id = l.queue.map QFrame.id ++ [l.nextId] := by simp [enqueue]
  have hmem : ∀ {i}, i ∈ l.queue.map QFrame.id → i ∈ (enqueue k seq payload l).queue.map QFrame.id := fun hi => by
    rw [hids]
    exact List.mem_append_left _ hi
  have hnew : l.nextId ∉ l.queue.map QFrame.id := fun hn => by
    obtain ⟨f, hf, hid⟩ := List.mem_map.1 hn
    exact absurd (h.fresh f hf) (by omega)
  refine
    { bound := by simpa [enqueue] using room
      kinds := fun f hf => ?kinds
      lengths := fun f hf => ?lengths
      distinct := ?distinct
      fresh := fun f hf => ?fresh
      attemptQueued := fun id ha => hmem (h.attemptQueued id ha)
      attemptState := h.attemptState
      cancelCarried := h.cancelCarried
      countedQueued := fun id hc => hmem (h.countedQueued id hc)
      attemptCounted := h.attemptCounted
      attempts := h.attempts
      recessive := h.recessive }
  case kinds =>
    rcases List.mem_append.1 hf with hf | hf
    · exact h.kinds f hf
    · rwa [List.mem_singleton.1 hf]
  case lengths =>
    rcases List.mem_append.1 hf with hf | hf
    · exact h.lengths f hf
    · rwa [List.mem_singleton.1 hf]
  case distinct =>
    rw [hids]
    exact h.distinct.append (List.nodup_singleton _) (List.disjoint_singleton.2 hnew)
  case fresh =>
    rcases List.mem_append.1 hf with hf | hf
    · exact Nat.lt_succ_of_lt (h.fresh f hf)
    · rw [List.mem_singleton.1 hf]
      exact Nat.lt_succ_self _

theorem QueueInv.leaves {l : LinkControl} (h : QueueInv l) {id : Nat} (waits : l.attempt ≠ some id) :
    QueueInv (removeFrame id l) := by
  have hsub : ∀ f ∈ (removeFrame id l).queue, f ∈ l.queue := fun f hf => List.mem_of_mem_filter hf
  refine
    { bound := Nat.le_trans (List.length_filter_le _ _) h.bound
      kinds := fun f hf => h.kinds f (hsub f hf)
      lengths := fun f hf => h.lengths f (hsub f hf)
      distinct := h.distinct.sublist (List.filter_sublist.map _)
      fresh := fun f hf => h.fresh f (hsub f hf)
      attemptQueued := fun i ha => mem_removeFrame_ids (h.attemptQueued i ha) fun hi => waits (hi ▸ ha)
      attemptState := h.attemptState
      cancelCarried := h.cancelCarried
      countedQueued := fun i hc => ?countedQueued
      attemptCounted := fun i ha => ?attemptCounted
      attempts := ?attempts
      recessive := h.recessive }
  case countedQueued =>
    dsimp only [removeFrame] at hc
    split at hc
    · cases hc
    · rename_i hne
      exact mem_removeFrame_ids (h.countedQueued i hc) fun hi => hne (hi ▸ hc)
  case attemptCounted =>
    have hc := h.attemptCounted i ha
    exact (if_neg fun hid => waits (ha.trans (hc.symm.trans hid))).trans hc
  case attempts =>
    dsimp only [removeFrame]
    split
    · exact ⟨by decide, fun _ => rfl⟩
    · exact h.attempts

/-- A fold that keeps one of two at each place ends with a member of the list. -/
theorem foldl_choice_mem {α : Type} {g : α → α → α} (hg : ∀ a b, g a b = a ∨ g a b = b) (l : List α) (a : α) :
    l.foldl g a ∈ a :: l := by
  induction l generalizing a with
  | nil => exact List.mem_cons_self
  | cons b l ih =>
    rcases hg a b with h | h
    · rw [List.foldl_cons, h]
      exact List.cons_subset_cons a (List.subset_cons_self b l) (ih a)
    · rw [List.foldl_cons, h]
      exact List.mem_cons_of_mem a (ih b)

theorem higherKind_choice (f g : QFrame) : higherKind f g = f ∨ higherKind f g = g := (ite_eq_or_eq _ _ _).symm

theorem lowerKind_choice (f g : QFrame) : lowerKind f g = f ∨ lowerKind f g = g := (ite_eq_or_eq _ _ _).symm

/-- A displaced frame is a queued one that is not in attempt (R74). -/
theorem victimFor_mem {k : Kind} {l : LinkControl} {v : QFrame} (h : victimFor k l = some v) :
    v ∈ l.queue ∧ l.attempt ≠ some v.id := by
  unfold victimFor at h
  split at h
  · cases h
  · rename_i f fs heq
    dsimp only at h
    split at h
    · cases h
      have hv := foldl_choice_mem higherKind_choice fs f
      rw [← heq] at hv
      simpa using hv
    · cases h

/-- The queue is shorter by a frame that leaves it (R74). -/
theorem removeFrame_length {l : LinkControl} {f : QFrame} (hf : f ∈ l.queue) :
    (removeFrame f.id l).queue.length < l.queue.length := by
  exact List.length_filter_lt_length_iff_exists.2 ⟨f, hf, by simp⟩

/-- An offer keeps the form: a full queue makes room before the frame enters (R73, R74). -/
theorem QueueInv.offered {l : LinkControl} (h : QueueInv l) {k : Kind} (seq : BitVec 6) {payload : List Byte}
    (station : 3 ≤ kindValue k) (fits : payload.length = payloadLength k) :
    QueueInv (offeredLink k seq payload l) := by
  unfold offeredLink
  split
  · exact h.enters seq ‹_› station fits
  · split
    · exact h
    · rename_i v hv
      obtain ⟨hmem, hatt⟩ := victimFor_mem hv
      exact (h.leaves hatt).enters seq (Nat.lt_of_lt_of_le (removeFrame_length hmem) h.bound) station fits

theorem QueueMove.inv {l m : LinkControl} (a : QueueMove l m) (h : QueueInv l) : QueueInv m := by
  cases a with
  | offered k seq payload station fits => exact h.offered seq station fits
  | leaves id waits => exact h.leaves waits
  | carries sends => exact { h with cancelCarried := fun _ => sends }

theorem QueueFollows.inv {m l : LinkControl} (a : QueueFollows m l) (h : QueueInv l) : QueueInv m := by
  induction a with
  | refl => exact h
  | tail _ b ih => exact b.inv ih

/-! ### Operations that offer and cancel -/

theorem offer_follows {k : Kind} (seq : BitVec 6) {payload : List Byte} (s : State) (station : 3 ≤ kindValue k)
    (fits : payload.length = payloadLength k) : QueueFollows (offer k seq payload s).1.link s.link := by
  rw [offer_eq k seq payload s station]
  exact (QueueMove.offered s.link k seq payload station fits).follows

theorem offerTrain_follows (subtype ordinal vehicles : Nat) (reversed desync : Bool) (s : State) :
    QueueFollows (offerTrain subtype ordinal vehicles reversed desync s).1.link s.link := offer_follows _ s (by decide) rfl

theorem offerPresence_follows (s : State) : QueueFollows (offerPresence s).link s.link := offer_follows 0 s (by decide) rfl

theorem setFault_follows (f : StationFault) (s : State) : QueueFollows (setFault f s).link s.link := by
  unfold setFault
  dsimp only
  split
  · exact offerPresence_follows _
  · exact QueueFollows.refl _

theorem cancelFrame_follows (id : Nat) (s : State) : QueueFollows (cancelFrame id s).link s.link := by
  unfold cancelFrame
  split
  · split
    · rename_i ha
      exact (QueueMove.carries s.link (by simp [ha])).follows
    · exact (QueueMove.leaves s.link id ‹_›).follows
  · exact QueueFollows.refl _

theorem foldCancel_follows (ids : List Nat) (s : State) :
    QueueFollows (ids.foldl (fun s id => cancelFrame id s) s).link s.link := by
  induction ids generalizing s with
  | nil => exact QueueFollows.refl _
  | cons id ids ih => exact (ih _).trans (cancelFrame_follows id s)

theorem cancelAxles_follows (s : State) : QueueFollows (cancelAxles s).link s.link := foldCancel_follows _ s

/-! ### Publication Table and Vehicle Assembler -/

theorem dissentFrom_follows (v : Nat) (r : VehicleRecord) (peer : PeerRecord) (s : State) :
    QueueFollows (dissentFrom v r peer s).link s.link := by
  have h := offer_follows (k := .dissent) (seqOf r.ordinal) (payload := dissentPayload r peer.sender) s (by decide) rfl
  unfold dissentFrom offerDissent
  split
  all_goals
    rename_i heq
    rwa [heq] at h

theorem ownRecordNew_follows (r : VehicleRecord) (s : State) : QueueFollows (ownRecordNew r s).link s.link := by
  have h := offer_follows (k := .vehicle) (seqOf r.ordinal) (payload := vehiclePayload r)
    { s with pub := createPub ⟨r.ordinal, .dropped r none⟩ s.pub } (by decide) rfl
  unfold ownRecordNew offerVehicle
  dsimp only
  split
  all_goals
    rename_i heq
    rwa [heq] at h

theorem takeOwnRecord_follows (r : VehicleRecord) (s : State) : QueueFollows (takeOwnRecord r s).link s.link := by
  unfold takeOwnRecord
  split
  · exact ownRecordNew_follows r s
  · split
    · split
      · exact QueueFollows.refl _
      · exact dissentFrom_follows _ _ _ s
    all_goals exact QueueFollows.refl _

theorem takePeerRecord_follows (peer : PeerRecord) (s : State) : QueueFollows (takePeerRecord peer s).link s.link := by
  unfold takePeerRecord
  split
  · exact QueueFollows.refl _
  · split
    · exact QueueFollows.refl _
    · split
      · unfold convertQueued
        dsimp only
        split
        · exact cancelFrame_follows _ s
        · exact (dissentFrom_follows _ _ _ _).trans (cancelFrame_follows _ s)
      all_goals exact QueueFollows.refl _

theorem closeVehicle_follows (closing : VehicleFlags) (s : State) : QueueFollows (closeVehicle closing s).link s.link := by
  unfold closeVehicle
  split
  · exact QueueFollows.refl _
  · exact takeOwnRecord_follows _ _

theorem appendAxle_follows (v : OpenVehicle) (g : List Nat) (u : Bool) (a : VehicleAxle) (s : State) :
    QueueFollows (appendAxle v g u a s).link s.link := by
  unfold appendAxle
  dsimp only
  split
  · exact closeVehicle_follows _ _
  · exact QueueFollows.refl _

theorem splitAt_follows (a : VehicleAxle) (s : State) : QueueFollows (splitAt a s).link s.link := closeVehicle_follows _ s

theorem takeAxle_follows (a : ConsensusAxle) (s : State) : QueueFollows (takeAxle a s).link s.link := by
  unfold takeAxle
  dsimp only
  split
  · exact QueueFollows.refl _
  · split
    · unfold takeBogie
      split
      · exact appendAxle_follows _ _ _ _ s
      · split
        · exact appendAxle_follows _ _ _ _ s
        · exact splitAt_follows _ s
    · unfold takeBody
      split
      · exact appendAxle_follows _ _ _ _ s
      · exact splitAt_follows _ s
    · exact closeVehicle_follows _ s
    · exact closeVehicle_follows _ s

/-! ### Consensus Table -/

theorem handAxle_follows (a : ConsensusAxle) (s : State) : QueueFollows (handAxle a s).link s.link := takeAxle_follows a _

theorem handEntry_follows (i : Fin 16) (a : ConsensusAxle) (s : State) : QueueFollows (handEntry i a s).link s.link :=
  takeAxle_follows a _

theorem handStep_follows {s t : State} (h : handStep s = some t) : QueueFollows t.link s.link := by
  unfold handStep at h
  split at h
  · split at h
    · cases h
      exact handEntry_follows _ _ s
    · cases h
    · cases h
  · split at h
    · cases h
      exact handAxle_follows _ s
    · cases h

theorem handRun_follows (n : Nat) (s : State) : QueueFollows (handRun n s).link s.link := by
  induction n generalizing s with
  | zero => exact QueueFollows.refl _
  | succ n ih =>
    unfold handRun
    split
    · exact QueueFollows.refl _
    · exact (ih _).trans (handStep_follows ‹_›)

theorem handChain_follows (s : State) : QueueFollows (handChain s).link s.link := handRun_follows _ s

theorem takeOwnSlip_follows (r : Option Bool) (s : State) : QueueFollows (takeOwnSlip r s).link s.link := by
  unfold takeOwnSlip
  split
  · exact QueueFollows.refl _
  · split
    · split
      · split
        · exact QueueFollows.refl _
        · exact cancelAxles_follows { s with train := { s.train with slips := 3, standing := .desync } }
      · exact QueueFollows.refl _
    · exact QueueFollows.refl _

theorem decideEntry_follows (i : Fin 16) (c : Collecting) (t : Trigger) (s : State) :
    QueueFollows (decideEntry i c t s).link s.link := takeOwnSlip_follows _ _

theorem forcedStep_follows (s : State) : QueueFollows (forcedStep s).link s.link := by
  unfold forcedStep
  split
  · exact handAxle_follows _ s
  · split
    · exact (handEntry_follows _ _ _).trans (decideEntry_follows _ _ _ s)
    · exact handEntry_follows _ _ s
    · exact QueueFollows.refl _

theorem forceAdvance_follows (n a : Nat) (s : State) : QueueFollows (forceAdvance n a s).link s.link := by
  induction n generalizing s with
  | zero => exact QueueFollows.refl _
  | succ n ih =>
    unfold forceAdvance
    split
    · exact (ih _).trans ((handChain_follows _).trans (forcedStep_follows s))
    · exact QueueFollows.refl _

theorem handUpTo_follows (n last : Nat) (s : State) : QueueFollows (handUpTo n last s).link s.link := by
  induction n generalizing s with
  | zero => exact QueueFollows.refl _
  | succ n ih =>
    unfold handUpTo
    split
    · exact (ih _).trans (forcedStep_follows s)
    · exact QueueFollows.refl _

theorem storeAt_follows (i : Fin 16) (c : Collecting) (p : Pos) (q : Partial) (s : State) :
    QueueFollows (storeAt i c p q s).link s.link := by
  unfold storeAt
  dsimp only
  split
  · exact (handChain_follows _).trans (decideEntry_follows _ _ _ s)
  · exact QueueFollows.refl _

theorem storeInWindow_follows (p : Pos) (q : Partial) (s : State) : QueueFollows (storeInWindow p q s).link s.link := by
  unfold storeInWindow
  split
  · split
    · exact storeAt_follows _ _ _ _ s
    · exact QueueFollows.refl _
    · exact QueueFollows.refl _
  · split
    · exact QueueFollows.refl _
    · exact storeAt_follows _ _ _ _ _

theorem takeContribution_follows (p : Pos) (q : Partial) (s : State) :
    QueueFollows (takeContribution p q s).link s.link := by
  unfold takeContribution
  split
  · split
    · exact QueueFollows.refl _
    · exact (storeInWindow_follows _ _ _).trans (forceAdvance_follows _ _ s)
  · exact QueueFollows.refl _

theorem deadlineExpiry_follows (i : Fin 16) (s : State) : QueueFollows (deadlineExpiry i s).link s.link := by
  unfold deadlineExpiry
  split
  · split
    · exact (handChain_follows _).trans (decideEntry_follows _ _ _ s)
    · exact QueueFollows.refl _
  · exact QueueFollows.refl _
  · exact QueueFollows.refl _

/-! ### Trains -/

theorem openTrain_link (d : Direction) (st : Standing) (n : Nat) (s : State) : (openTrain d st n s).link = s.link := by
  rw [openTrain_eq]

theorem requestQuiet_link (s : State) : (requestQuiet s).link = s.link := by rw [requestQuiet_eq]

theorem trainTakesDetector_follows (d : Direction) (s : State) : QueueFollows (trainTakesDetector d s).link s.link := by
  unfold trainTakesDetector
  split
  · split
    · have h := offerTrain_follows trainOpenSubtype 0 0 false false (openTrain d s.openStanding 1 s)
      rwa [openTrain_link] at h
    · exact QueueFollows.refl _
    · exact QueueFollows.refl _
  · exact QueueFollows.refl _

theorem enterAbandoned_follows (r : Nat) (s : State) : QueueFollows (enterAbandoned r s).link s.link :=
  (closeVehicle_follows _ _).trans ((handUpTo_follows _ _ _).trans (cancelAxles_follows (clearCounter (discardDwell s))))

theorem abandonAnnounced_follows (r : Nat) (s : State) : QueueFollows (abandonAnnounced r s).link s.link :=
  (enterAbandoned_follows r _).trans (offerTrain_follows _ _ _ _ _ s)

theorem closeFlush_follows (n : Nat) (s : State) : QueueFollows (closeFlush n s).link s.link := by
  unfold closeFlush
  split
  · exact (closeVehicle_follows _ _).trans (handUpTo_follows _ _ s)
  · exact QueueFollows.refl _
  · exact QueueFollows.refl _

theorem formClose_follows (s : State) : QueueFollows (formClose s).link s.link := by
  unfold formClose
  dsimp only
  split
  · exact QueueFollows.refl _
  · exact offerTrain_follows _ _ _ _ _ _

theorem closeTrain_follows (s : State) : QueueFollows (closeTrain s).link s.link := by
  unfold closeTrain
  dsimp only
  rw [requestQuiet_link]
  exact (formClose_follows _).trans ((closeFlush_follows _ _).trans (cancelAxles_follows (discardDwell s)))

theorem closeTimerExpiry_follows (s : State) : QueueFollows (closeTimerExpiry s).link s.link := by
  unfold closeTimerExpiry
  split
  · exact closeTrain_follows s
  · exact QueueFollows.refl _

theorem cancelOpen_follows (s : State) : QueueFollows (cancelOpen s).link s.link := by
  unfold cancelOpen
  split
  · exact QueueFollows.refl _
  · exact cancelFrame_follows _ s

theorem takeTrainOpen_follows (f : TrainFrame) (s : State) : QueueFollows (takeTrainOpen f s).link s.link := by
  unfold takeTrainOpen
  split
  · split
    · rw [openTrain_link]
      exact QueueFollows.refl _
    · split
      · exact cancelOpen_follows s
      · exact abandonAnnounced_follows _ s
    · exact QueueFollows.refl _
  · exact QueueFollows.refl _

theorem takeTrainReversal_follows (f : TrainFrame) (s : State) : QueueFollows (takeTrainReversal f s).link s.link := by
  unfold takeTrainReversal
  split
  · exact enterAbandoned_follows _ s
  · exact QueueFollows.refl _

theorem answerClose_follows (f : TrainFrame) (s : State) : QueueFollows (answerClose f s).link s.link := by
  unfold answerClose
  split
  · exact QueueFollows.refl _
  · split
    · exact cancelFrame_follows _ s
    · exact QueueFollows.refl _

theorem keepClose_link (f : TrainFrame) (s : State) : (keepClose f s).link = s.link := by
  unfold keepClose
  split <;> rfl

theorem takeTrainClose_follows (f : TrainFrame) (s : State) : QueueFollows (takeTrainClose f s).link s.link := by
  unfold takeTrainClose
  split
  · split
    · exact answerClose_follows f s
    all_goals
      rw [keepClose_link]
      exact QueueFollows.refl _
  · exact QueueFollows.refl _

theorem trainTakesAxle_link (q : Partial) (s : State) : (trainTakesAxle q s).link = s.link := by
  unfold trainTakesAxle
  split
  · split
    · split <;> exact openTrain_link _ _ _ s
    · rfl
    · rfl
  · rfl

/-! ### Detector events -/

theorem handOn_follows (q : Partial) (s : State) : QueueFollows (handOn q s).link s.link := by
  unfold handOn
  split
  · exact (takeContribution_follows _ _ _).trans (offer_follows _ s (by decide) rfl)
  · exact QueueFollows.refl _

theorem endOpenDwell_follows (s : State) : QueueFollows (endOpenDwell s).link s.link := by
  unfold endOpenDwell
  split
  · exact handOn_follows _ _
  · exact QueueFollows.refl _

theorem takeEntry_follows (s : State) : QueueFollows (takeEntry s).link s.link := by
  unfold takeEntry
  split
  · exact abandonAnnounced_follows _ s
  · exact (handChain_follows _).trans (endOpenDwell_follows s)

theorem takeExit_follows (s : State) : QueueFollows (takeExit s).link s.link := by
  unfold takeExit
  split
  · exact handOn_follows _ _
  · exact QueueFollows.refl _

theorem wheelTakes_follows (d : Detector) (dir : Direction) (s : State) : QueueFollows (wheelTakes d dir s).link s.link := by
  unfold wheelTakes
  split
  · split
    · split
      · exact takeEntry_follows s
      · exact takeExit_follows s
    · exact abandonAnnounced_follows _ s
  · exact QueueFollows.refl _

theorem detectorEvent_follows (d : Detector) (dir : Direction) (s : State) :
    QueueFollows (detectorEvent d dir s).link s.link := by
  unfold detectorEvent
  split
  · rw [acceptDetector_eq]
    exact (wheelTakes_follows d dir _).trans (trainTakesDetector_follows dir (reported d s))
  · exact QueueFollows.refl _

/-! ### Sample pairs and timers -/

theorem judgeIdle_follows (p : Pair) (s : State) : QueueFollows (judgeIdle p s).link s.link := by
  unfold judgeIdle
  split
  · exact setFault_follows _ s
  · exact QueueFollows.refl _

theorem zeroTake_follows (p : Pair) (s : State) : QueueFollows (zeroTake p s).link s.link := by
  unfold zeroTake
  split
  · exact QueueFollows.refl _
  · split
    · split
      · unfold capturePair
        split
        · exact QueueFollows.refl _
        · dsimp only
          split
          · exact QueueFollows.refl _
          · split
            · exact offerPresence_follows _
            · exact QueueFollows.refl _
      · unfold trackPair
        dsimp only
        split
        · exact setFault_follows _ _
        · exact QueueFollows.refl _
    · exact QueueFollows.refl _

theorem producePair_follows (l r : Sample) (s : State) : QueueFollows (producePair l r s).link s.link :=
  (zeroTake_follows _ _).trans (judgeIdle_follows _ _)

theorem samplePair_follows (l r : Sample) (s : State) : QueueFollows (samplePair l r s).link s.link := by
  unfold samplePair
  split
  · exact producePair_follows l r s
  · exact QueueFollows.refl _

theorem zeroCaptureComplete_follows (l r : Sample) (s : State) : QueueFollows (zeroCaptureComplete l r s).link s.link := by
  unfold zeroCaptureComplete
  split
  · exact producePair_follows l r s
  · exact QueueFollows.refl _

theorem wakeRate_link (s : State) : (wakeRate s).link = s.link := by
  unfold wakeRate
  split <;> rfl

theorem takeWake_link (w : WakeSource) (s : State) : (takeWake w s).link = s.link := by
  unfold takeWake
  split
  · exact wakeRate_link _
  · rfl

theorem quietTimerExpiry_link (s : State) : (quietTimerExpiry s).link = s.link := by
  unfold quietTimerExpiry quietExpired
  split
  · split
    · rw [takeWake_link, takeWake_link]
    · split <;> rfl
  · rfl

theorem dormantEntryComplete_link (s : State) : (dormantEntryComplete s).link = s.link := by
  unfold dormantEntryComplete
  split <;> rfl

theorem refreshTimerExpiry_link (s : State) : (refreshTimerExpiry s).link = s.link := by
  unfold refreshTimerExpiry
  split
  · exact wakeRate_link s
  · rfl

theorem settlingComplete_link (s : State) : (settlingComplete s).link = s.link := by
  unfold settlingComplete
  split <;> rfl

theorem debounceHoldEnd_link (d : Detector) (s : State) : (debounceHoldEnd d s).link = s.link := by
  unfold debounceHoldEnd
  split <;> rfl

/-! ### Settings -/

theorem refuseSettings_follows (r : LastRefusal) (s : State) : QueueFollows (refuseSettings r s).link s.link :=
  offerPresence_follows _

theorem takeCalibrate_follows (f : RxFrame) (s : State) : QueueFollows (takeCalibrate f s).link s.link := by
  unfold takeCalibrate offerCalibrate
  split
  · split
    · exact refuseSettings_follows _ s
    · exact offerPresence_follows _
  · exact QueueFollows.refl _

theorem acceptSite_follows (st : Site) (s : State) : QueueFollows (acceptSite st s).link s.link := by
  have h := offerPresence_follows (resizeQuiet { s with conf := { s.conf with site := some st, lastRefusal := .none } })
  rw [resizeQuiet_eq] at h
  rw [acceptSite, resizeQuiet_eq]
  exact h

theorem takeSite_follows (f : RxFrame) (s : State) : QueueFollows (takeSite f s).link s.link := by
  unfold takeSite
  split
  · split
    · exact refuseSettings_follows _ s
    · exact acceptSite_follows _ s
  · exact QueueFollows.refl _

theorem takeVehicleFrame_follows (f : RxFrame) (s : State) : QueueFollows (takeVehicleFrame f s).link s.link := by
  unfold takeVehicleFrame
  split
  · exact takePeerRecord_follows _ s
  · exact QueueFollows.refl _

theorem takeAxleFrame_follows (f : RxFrame) (s : State) : QueueFollows (takeAxleFrame f s).link s.link := by
  have h := takeContribution_follows f.position (readAxle f.payload) (trainTakesAxle (readAxle f.payload) s)
  rwa [trainTakesAxle_link] at h

theorem rosterTake_follows (k : Kind) (f : RxFrame) (s : State) : QueueFollows (rosterTake k f s).link s.link :=
  QueueFollows.refl s.link

theorem deliverStation_follows (k : Kind) (f : RxFrame) {others : State → State}
    (h : ∀ u, QueueFollows (others u).link u.link) (s : State) :
    QueueFollows (deliverStation k f others s).link s.link := by
  unfold deliverStation
  split
  · exact h s
  · exact h _

theorem takeTrainFrame_follows (n : Nat) (f : RxFrame) {take : TrainFrame → State → State}
    (h : ∀ g u, QueueFollows (take g u).link u.link) (s : State) :
    QueueFollows (takeTrainFrame n f take s).link s.link := by
  unfold takeTrainFrame
  dsimp only
  split
  · exact h _ s
  · exact QueueFollows.refl _

end Sys2Proof.Machine
end

section
/-! The transmit queue's form under the events of the link, resets and received frames; every step keeps it. -/

namespace Sys2Proof.Machine

/-! ### Outside an attempt -/

/-- The station neither contends nor sends (R64). -/
def LinkState.rests (st : LinkState) : Prop := st = .idle ∨ st = .receiving

theorem LinkState.rests_iff (st : LinkState) : st.rests ↔ ¬ (st = .contending ∨ st = .sending) := by
  unfold LinkState.rests
  cases st <;> simp

/-- The end of an attempt keeps the form (R65, R66, R69). -/
theorem QueueInv.ended {l : LinkControl} (h : QueueInv l) {st : LinkState} (hst : st.rests) {n : Nat} (hn : n ≤ 11) :
    QueueInv (endAttempt st n l) :=
  { bound := h.bound
    kinds := h.kinds
    lengths := h.lengths
    distinct := h.distinct
    fresh := h.fresh
    attemptQueued := nofun
    attemptState := by simpa [endAttempt] using (LinkState.rests_iff st).1 hst
    cancelCarried := nofun
    countedQueued := h.countedQueued
    attemptCounted := nofun
    attempts := h.attempts
    recessive := hn }

/-- Outside an attempt none is held and no cancellation is carried (R64, R75). -/
theorem QueueInv.atRest {l : LinkControl} (h : QueueInv l) (hl : l.state.rests) :
    l.attempt = none ∧ l.cancelled = false := by
  have ha : l.attempt = none :=
    Option.not_isSome_iff_eq_none.1 (mt h.attemptState.1 ((LinkState.rests_iff _).1 hl))
  exact ⟨ha, Bool.eq_false_iff.2 fun hc => by simpa [ha] using h.cancelCarried hc⟩

theorem QueueInv.relinked {l : LinkControl} (h : QueueInv l) (hl : l.state.rests) {st : LinkState} (hst : st.rests)
    {n : Nat} (hn : n ≤ 11) : QueueInv { l with state := st, recessive := n } := by
  obtain ⟨ha, hc⟩ := h.atRest hl
  have he := h.ended hst hn
  rwa [endAttempt, ← ha, ← hc] at he

/-- With no attempt in progress the count may end (R67, R69). -/
theorem QueueInv.uncounted {l : LinkControl} (h : QueueInv l) (ha : l.attempt = none) :
    QueueInv { l with counted := none, attempts := 0 } :=
  { h with
    countedQueued := nofun
    attemptCounted := fun id hid => by simp [ha] at hid
    attempts := ⟨Nat.zero_lt_succ 7, fun _ => rfl⟩ }

/-- An empty queue with no attempt and no count (R77). -/
theorem queueInv_empty {l : LinkControl} (hq : l.queue = []) (hl : l.state.rests) (ha : l.attempt = none)
    (hx : l.cancelled = false) (hc : l.counted = none) (hn : l.attempts = 0) (hr : l.recessive ≤ 11) : QueueInv l :=
  { bound := by simp [hq]
    kinds := by simp [hq]
    lengths := by simp [hq]
    distinct := by simp [hq]
    fresh := by simp [hq]
    attemptQueued := by simp [ha]
    attemptState := by simpa [ha] using (LinkState.rests_iff _).1 hl
    cancelCarried := by simp [hx]
    countedQueued := by simp [hc]
    attemptCounted := by simp [ha]
    attempts := by simp [hn]
    recessive := hr }

/-! ### Attempts -/

theorem countRecessive_le (n m : Nat) : countRecessive n m ≤ 11 := Nat.min_le_right _ _

/-- The head of the queue is a queued frame (R73). -/
theorem headFrame_mem {q : List QFrame} {f : QFrame} (h : headFrame q = some f) : f ∈ q := by
  cases q with
  | nil => cases h
  | cons g q =>
    cases h
    exact foldl_choice_mem lowerKind_choice q g

theorem QueueInv.started {l : LinkControl} (h : QueueInv l) {f : QFrame} (hf : f ∈ l.queue) :
    QueueInv (startAttempt f l) := by
  have hid : ∀ id, some f.id = some id → id ∈ l.queue.map QFrame.id := fun id hid => by
    cases hid
    exact List.mem_map_of_mem hf
  refine
    { h with
      attemptQueued := hid
      attemptState := by simp [startAttempt]
      cancelCarried := nofun
      countedQueued := hid
      attemptCounted := fun _ => id
      attempts := ⟨?_, nofun⟩
      recessive := Nat.zero_le _ }
  dsimp only [startAttempt]
  split
  · exact h.attempts.1
  · decide

theorem attemptStart_queueInv (n : Nat) {s : State} (h : QueueInv s.link) : QueueInv (attemptStart n s).link := by
  unfold attemptStart
  split
  · rename_i hs
    have hcount := h.relinked (.inl hs) (.inl hs) (countRecessive_le s.link.recessive n)
    dsimp only
    split
    · exact hcount
    · rename_i f hf
      split
      · exact hcount.started (headFrame_mem hf)
      · exact hcount
  · exact h

theorem otherPartyStartMark_queueInv (n : Nat) {s : State} (h : QueueInv s.link) :
    QueueInv (otherPartyStartMark n s).link := by
  unfold otherPartyStartMark
  split
  · rename_i hs
    split
    · exact h.relinked (.inl hs) (.inr rfl) (Nat.zero_le _)
    · exact h.relinked (.inl hs) (.inl hs) (Nat.zero_le _)
  · exact h

theorem labelSentUnbeaten_queueInv {s : State} (h : QueueInv s.link) : QueueInv (labelSentUnbeaten s).link := by
  unfold labelSentUnbeaten
  split
  · rename_i hs
    exact { h with attemptState := by simpa [hs] using h.attemptState }
  · exact h

/-- A carried cancellation is carried out on a link whose attempt has ended (R75). -/
theorem QueueInv.dropped {l : LinkControl} (h : QueueInv l) {st : LinkState} (hst : st.rests) {n : Nat} (hn : n ≤ 11) :
    QueueInv (dropCancelled l (endAttempt st n l)) := by
  have he := h.ended hst hn
  unfold dropCancelled
  split
  · exact he
  · split
    · exact he.leaves nofun
    · exact he

theorem arbitrationLost_queueInv {s : State} (h : QueueInv s.link) : QueueInv (arbitrationLost s).link := by
  unfold arbitrationLost
  split
  · exact h.dropped (.inr rfl) (Nat.zero_le _)
  · exact h

/-- A frame whose attempt has ended leaves with its count (R67, R69). -/
theorem QueueInv.finished {l : LinkControl} (h : QueueInv l) (f : QFrame) (ha : l.attempt = none) :
    QueueInv { removeFrame f.id l with counted := none, attempts := 0 } :=
  (h.leaves (by simp [ha])).uncounted ha

theorem discardFrame_queueInv (f : QFrame) {s : State} (h : QueueInv s.link) (ha : s.link.attempt = none) :
    QueueInv (discardFrame f s).link := by
  refine (setFault_follows _ _).inv ?_
  rw [notify_link]
  exact h.finished f ha

theorem failAttempt_queueInv (f : QFrame) {s : State} (h : QueueInv s.link) (ha : s.link.attempt = none)
    (hc : s.link.counted ≠ none) : QueueInv (failAttempt f s).link := by
  unfold failAttempt
  split
  · exact { h with attempts := ⟨‹_›, fun hn => absurd hn hc⟩ }
  · exact discardFrame_queueInv f h ha

/-- The frame in attempt is counted (R67). -/
theorem QueueInv.counted_of_inAttempt {l : LinkControl} (h : QueueInv l) {f : QFrame} (hf : l.inAttempt = some f) :
    l.counted ≠ none := by
  unfold LinkControl.inAttempt at hf
  split at hf
  · cases hf
  · rename_i id ha
    simp [h.attemptCounted id ha]

theorem senderError_queueInv (n : Nat) {s : State} (h : QueueInv s.link) : QueueInv (senderError n s).link := by
  have he := h.ended (st := .idle) (.inl rfl) (countRecessive_le 0 n)
  unfold senderError
  split
  · dsimp only
    split
    · exact h.dropped (.inl rfl) (countRecessive_le 0 n)
    · split
      · exact he
      · exact failAttempt_queueInv _ he rfl (h.counted_of_inAttempt ‹_›)
  · exact h

theorem attemptComplete_queueInv {s : State} (h : QueueInv s.link) : QueueInv (attemptComplete s).link := by
  have he := h.ended (st := .idle) (.inl rfl) (Nat.zero_le 11)
  unfold attemptComplete
  split
  · dsimp only
    split
    · exact he
    · rw [sentFrame, notify_link]
      exact he.finished _ rfl
  · exact h

theorem frameBroken_queueInv (c : BreakCause) (n : Nat) {s : State} (h : QueueInv s.link) :
    QueueInv (frameBroken c n s).link := by
  unfold frameBroken
  split
  · rename_i hs
    exact h.relinked (.inr hs) (.inl rfl) (countRecessive_le 0 n)
  · exact h

/-! ### Resets -/

theorem powerOn_queueInv (st : Straps) (s : State) : QueueInv (powerOn st s).link := by
  have he : QueueInv emptyLink := queueInv_empty rfl (.inl rfl) rfl rfl rfl rfl (Nat.zero_le _)
  unfold powerOn
  dsimp only
  split
  · exact he
  · exact (offerPresence_follows _).inv he

/-- A RESTART found in IDLE empties the queue and offers its PRESENCE (R77, R174). -/
theorem takeRestartFrame_queueInv (f : RxFrame) {s : State} (hs : s.link.state = .idle) (h : QueueInv s.link) :
    QueueInv (takeRestartFrame f s).link := by
  unfold takeRestartFrame
  split
  · rw [takeRestart_eq]
    exact (offerPresence_follows _).inv (queueInv_empty rfl (.inl hs) rfl rfl rfl rfl h.recessive)
  · exact h

/-! ### Received frames -/

/-- A received frame keeps the form when its delivery, which finds the link in IDLE, keeps it (R68, R70, R71). -/
theorem receiveFrame_queueInv (k : Kind) (f : RxFrame) {deliver : State → State}
    (hd : ∀ u, u.link.state = .idle → QueueInv u.link → QueueInv (deliver u).link) {s : State} (h : QueueInv s.link) :
    QueueInv (receiveFrame k f deliver s).link := by
  have hmark := otherPartyStartMark_queueInv 0 h
  unfold receiveFrame checkFrame
  dsimp only
  split
  · rename_i hl
    have hrests : (otherPartyStartMark 0 s).link.state.rests := by
      unfold State.listens at hl
      split at hl
      · cases hl
      · rename_i hr
        exact .inr hr
      · cases hl
      · cases hl
    have hend := hmark.relinked hrests (.inl rfl) (Nat.zero_le 11)
    split
    · split
      · split
        · exact (setFault_follows _ _).inv hend
        · exact hd _ rfl hend
      · exact hend
    · exact hend
  · exact hmark

theorem receiveFrame_offers (k : Kind) (f : RxFrame) {deliver : State → State}
    (hd : ∀ u, QueueFollows (deliver u).link u.link) {s : State} (h : QueueInv s.link) :
    QueueInv (receiveFrame k f deliver s).link := receiveFrame_queueInv k f (fun u _ => (hd u).inv) h

theorem trainRow_queueInv (n : Nat) (f : RxFrame) {take : TrainFrame → State → State}
    (ht : ∀ g u, QueueFollows (take g u).link u.link) {s : State} (h : QueueInv s.link) :
    QueueInv (receiveFrame .train f (deliverStation .train f (takeTrainFrame n f take)) s).link :=
  receiveFrame_offers _ f (deliverStation_follows _ f (takeTrainFrame_follows n f ht)) h

/-! ### Every command, every step -/

theorem effect_queueInv (c : Instr) {s : State} (h : QueueInv s.link) : QueueInv (effect c s).link := by
  cases c with
  | powerOnReset pos cnt sec => exact powerOn_queueInv _ s
  | samplePair l r => exact (samplePair_follows l r s).inv h
  | zeroCaptureComplete l r => exact (zeroCaptureComplete_follows l r s).inv h
  | settlingComplete => exact (settlingComplete_link s).symm ▸ h
  | quietTimerExpiry => exact (quietTimerExpiry_link s).symm ▸ h
  | dormantEntryComplete => exact (dormantEntryComplete_link s).symm ▸ h
  | refreshTimerExpiry => exact (refreshTimerExpiry_link s).symm ▸ h
  | wakeEvent w => exact (takeWake_link w s).symm ▸ h
  | detectorEvent d dir => exact (detectorEvent_follows d dir s).inv h
  | debounceHoldEnd d => exact (debounceHoldEnd_link d s).symm ▸ h
  | closeTimerExpiry => exact (closeTimerExpiry_follows s).inv h
  | deadlineExpiry i => exact (deadlineExpiry_follows i s).inv h
  | attemptStart n => exact attemptStart_queueInv n h
  | arbitrationLost => exact arbitrationLost_queueInv h
  | senderError n => exact senderError_queueInv n h
  | attemptComplete => exact attemptComplete_queueInv h
  | frameBroken b n => exact frameBroken_queueInv b n h
  | restartFrame f => exact receiveFrame_queueInv _ f (fun _ => takeRestartFrame_queueInv f) h
  | calibrateFrame f => exact receiveFrame_offers _ f (takeCalibrate_follows f) h
  | siteFrame f => exact receiveFrame_offers _ f (takeSite_follows f) h
  | trainOpenFrame f => exact trainRow_queueInv _ f takeTrainOpen_follows h
  | trainReversalFrame f => exact trainRow_queueInv _ f takeTrainReversal_follows h
  | trainCloseFrame f => exact trainRow_queueInv _ f takeTrainClose_follows h
  | axleFrame f => exact receiveFrame_offers _ f (deliverStation_follows _ f (takeAxleFrame_follows f)) h
  | vehicleFrame f => exact receiveFrame_offers _ f (deliverStation_follows _ f (takeVehicleFrame_follows f)) h
  | dissentFrame f => exact receiveFrame_offers _ f (rosterTake_follows .dissent f) h
  | presenceFrame f => exact receiveFrame_offers _ f (rosterTake_follows .presence f) h
  | otherPartyStartMark n => exact otherPartyStartMark_queueInv n h
  | labelSentUnbeaten => exact labelSentUnbeaten_queueInv h

/-- Settles O8: outside the link's own events and the resets the queue changes by offers and cancellations alone, and
each of these keeps its form. -/
theorem queueInvKept : Obligations.QueueInvKept :=
  stepKeeps_of_effect (fun _ _ h => h) (fun _ h => h) fun c _ => effect_queueInv c

end Sys2Proof.Machine
end

section
/-! The events of the link and the operations of the transmit queue, written out. -/

namespace Sys2Proof.Machine

/-! ### Selecting a frame -/

theorem foldl_keeps {α : Type} {g : α → α → α} {v : α} {l : List α} (h : ∀ x ∈ l, g v x = v) : l.foldl g v = v := by
  induction l with
  | nil => rfl
  | cons x l ih =>
    rw [List.foldl_cons, h x List.mem_cons_self]
    exact ih fun y hy => h y (List.mem_cons_of_mem x hy)

/-- A fold that keeps one of two at each place ends with the member that wins over those before it and holds against
those after it. -/
theorem foldl_choice_eq {α : Type} {g : α → α → α} (hg : ∀ a b, g a b = a ∨ g a b = b) {pre post l : List α} {a v : α}
    (hl : pre ++ v :: post = a :: l) (hpre : ∀ x ∈ pre, g x v = v) (hpost : ∀ x ∈ post, g v x = v) :
    l.foldl g a = v := by
  cases pre with
  | nil =>
    cases hl
    exact foldl_keeps hpost
  | cons b pre =>
    obtain ⟨rfl, rfl⟩ : b = a ∧ pre ++ v :: post = l := List.cons.inj hl
    rw [List.foldl_append, List.foldl_cons, hpre _ (foldl_choice_mem hg pre b)]
    exact foldl_keeps hpost

/-- The head of the queue is the oldest frame of the lowest kind (R73). -/
theorem headFrame_eq (pre post : List QFrame) (f : QFrame) (hpre : ∀ g ∈ pre, kindValue f.kind < kindValue g.kind)
    (hpost : ∀ g ∈ post, kindValue f.kind ≤ kindValue g.kind) : headFrame (pre ++ f :: post) = some f := by
  unfold headFrame
  split
  · rename_i h
    simp at h
  · rename_i a l h
    exact congrArg some (foldl_choice_eq lowerKind_choice h (fun g hg => if_pos (hpre g hg))
      fun g hg => if_neg (Nat.not_lt.2 (hpost g hg)))

/-- A full queue displaces the youngest frame of the highest kind, when that is above the offered one (R74). -/
theorem victimFor_eq {k : Kind} {l : LinkControl} (pre post : List QFrame) (v : QFrame) (hq : l.queue = pre ++ v :: post)
    (hv : l.attempt ≠ some v.id) (hk : kindValue k < kindValue v.kind)
    (hpre : ∀ g ∈ pre, l.attempt ≠ some g.id → kindValue g.kind ≤ kindValue v.kind)
    (hpost : ∀ g ∈ post, l.attempt ≠ some g.id → kindValue g.kind < kindValue v.kind) :
    victimFor k l = some v := by
  have hfilter : l.queue.filter (fun f => l.attempt != some f.id) =
      pre.filter (fun f => l.attempt != some f.id) ++ v :: post.filter (fun f => l.attempt != some f.id) := by
    rw [hq, List.filter_append, List.filter_cons, if_pos (bne_iff_ne.2 hv)]
  unfold victimFor
  rw [hfilter]
  split
  · rename_i h
    simp at h
  · rename_i a fs h
    have hlast : fs.foldl higherKind a = v := foldl_choice_eq higherKind_choice h
      (fun g hg => if_pos (hpre g (List.mem_of_mem_filter hg) (bne_iff_ne.1 (List.mem_filter.1 hg).2)))
      fun g hg => if_neg (Nat.not_le.2 (hpost g (List.mem_of_mem_filter hg) (bne_iff_ne.1 (List.mem_filter.1 hg).2)))
    dsimp only
    rw [hlast, if_pos hk]

/-- Nothing is displaced when no frame outside an attempt is of a higher kind (R74). -/
theorem victimFor_none {k : Kind} {l : LinkControl}
    (h : ∀ g ∈ l.queue, l.attempt ≠ some g.id → kindValue g.kind ≤ kindValue k) : victimFor k l = none := by
  cases hv : victimFor k l with
  | none => rfl
  | some v =>
    obtain ⟨hmem, hatt⟩ := victimFor_mem hv
    exact absurd (victimFor_kind hv) (Nat.not_lt.2 (h v hmem hatt))

/-! ### Attempts and start marks -/

theorem attemptStart_starts (quiet : Nat) (s : State) (f : QFrame) (hi : s.link.state = .idle)
    (hn : 11 ≤ s.link.recessive + quiet) (hf : headFrame s.link.queue = some f) : attemptStart quiet s =
      { s with link := { s.link with
          state := .contending, recessive := 0, attempt := some f.id, cancelled := false, counted := some f.id
          attempts := if s.link.counted = some f.id then s.link.attempts else 0 } } := by
  rw [attemptStart, if_pos hi, hf]
  exact if_pos (Nat.le_min.2 ⟨hn, le_rfl⟩)

theorem attemptStart_waits (quiet : Nat) (s : State) (hi : s.link.state = .idle)
    (h : s.link.recessive + quiet < 11 ∨ s.link.queue = []) :
    attemptStart quiet s = { s with link := { s.link with recessive := min (s.link.recessive + quiet) 11 } } := by
  rw [attemptStart, if_pos hi]
  rcases h with h | h
  · cases headFrame s.link.queue with
    | none => rfl
    | some f => exact if_neg fun hn => absurd (Nat.le_trans hn (Nat.min_le_left _ _)) (Nat.not_le.2 h)
  · rw [h]
    rfl

theorem otherPartyStartMark_idle (quiet : Nat) (s : State) (hi : s.link.state = .idle) : otherPartyStartMark quiet s =
    { s with link := { s.link with
        state := if 11 ≤ s.link.recessive + quiet then .receiving else .idle, recessive := 0 } } := by
  have hcount : Config.idleBits ≤ countRecessive s.link.recessive quiet ↔ 11 ≤ s.link.recessive + quiet :=
    ⟨fun h => Nat.le_trans h (Nat.min_le_left _ _), fun h => Nat.le_min.2 ⟨h, le_rfl⟩⟩
  rw [otherPartyStartMark, if_pos hi]
  simp only [hcount]
  split
  · rfl
  · rw [← hi]

theorem arbitrationLost_keeps (s : State) (h : s.link.state = .contending) (hc : s.link.cancelled = false) :
    arbitrationLost s =
      { s with link := { s.link with state := .receiving, recessive := 0, attempt := none, cancelled := false } } := by
  rw [arbitrationLost, if_pos h, dropCancelled, hc]
  split <;> rfl

theorem arbitrationLost_cancelled (s : State) {id : Nat} (h : s.link.state = .contending)
    (ha : s.link.attempt = some id) (hc : s.link.cancelled = true) :
    arbitrationLost s = { s with link := removeFrame id (endAttempt .receiving 0 s.link) } := by
  rw [arbitrationLost, if_pos h, dropCancelled, ha, hc]
  rfl

/-- Settles O45: each event in the link state that admits it, then the states that exclude it. -/
theorem linkStates : Obligations.LinkStates := by
  intro s hs
  have hx : ∀ f : State → State, inService f s = .next (f s) := fun f => inService_next f s hs
  refine ⟨fun quiet pre post f hi hn hq hpre hpost => ?_, fun quiet hi h => ?_, fun quiet hi => ?_, fun hc => ?_,
    fun hc hx => ?_, fun id hc ha hx => ?_, fun cause run hr => ?_, fun hi quiet => ⟨?_, ?_⟩, fun hc => ⟨?_, ?_⟩,
    fun hr cause run => ?_⟩
  · exact (hx _).trans (congrArg _ (attemptStart_starts quiet s f hi hn (hq ▸ headFrame_eq pre post f hpre hpost)))
  · exact (hx _).trans (congrArg _ (attemptStart_waits quiet s hi h))
  · exact (hx _).trans (congrArg _ (otherPartyStartMark_idle quiet s hi))
  · exact (hx _).trans (congrArg _ (if_pos hc))
  · exact (inService_next _ s hs).trans (congrArg _ (arbitrationLost_keeps s hc hx))
  · exact (inService_next _ s hs).trans (congrArg _ (arbitrationLost_cancelled s hc ha hx))
  · refine (hx _).trans (congrArg _ ((if_pos hr).trans ?_))
    rw [countRecessive, Nat.zero_add]
    rfl
  · exact (hx _).trans (congrArg _ (if_neg hi))
  · exact (hx _).trans (congrArg _ (if_neg hi))
  · exact (hx _).trans (congrArg _ (if_neg hc))
  · exact (hx _).trans (congrArg _ (if_neg hc))
  · exact (hx _).trans (congrArg _ (if_neg hr))

/-! ### Completion and notices -/

/-- A completed attempt (R69): IDLE, the frame out of the queue, the count ended, the owner told. -/
theorem attemptComplete_sends (s : State) (pre post : List QFrame) (f : QFrame) (hs : s.link.state = .sending)
    (hq : s.link.queue = pre ++ f :: post) (h : ∀ g ∈ pre ++ post, g.id ≠ f.id) (ha : s.link.attempt = some f.id) :
    attemptComplete s = notify f .sent { s with link := { s.link with
      state := .idle, recessive := 0, attempt := none, cancelled := false, queue := pre ++ post, counted := none
      attempts := 0 } } := by
  rw [attemptComplete, if_pos hs, inAttempt_eq s.link pre post f hq h ha]
  dsimp only
  rw [sentFrame, removeFrame_eq (endAttempt .idle 0 s.link) pre post f hq h]
  rfl

/-- A notice leaves an entry that holds another frame or none (R150, R151). -/
theorem noticeEntry_other (id : Nat) (n : Notice) (e : PubEntry) (hq : ∀ own, e.state ≠ .queued own id)
    (hd : ∀ own peer, e.state ≠ .dissentQueued own peer id) : noticeEntry id n e = e := by
  unfold noticeEntry
  split
  · rename_i own ref he
    exact if_neg fun hid : ref = id => hq own (hid ▸ he)
  · rename_i own peer ref he
    exact if_neg fun hid : ref = id => hd own peer (hid ▸ he)
  all_goals rfl

/-- Settles O47: not sending, sending, and the two notices at an entry. -/
theorem attemptCompletes : Obligations.AttemptCompletes := by
  refine ⟨fun s hs hn => ?_, fun s pre post f hs hq hid ha hsend => ?_, fun id v own peer => ?_,
    fun id n e => noticeEntry_other id n e⟩
  · exact (inService_next _ s hs).trans (congrArg _ (if_neg hn))
  · exact (inService_next _ s hs).trans
      (congrArg _ ((attemptComplete_sends s pre post f hsend hq hid ha).trans (notify_eq f .sent _)))
  · simp [noticeEntry]

/-! ### Offers and cancellations -/

/-- A full queue makes room by the frame it displaces (R74). -/
theorem offer_displaces {k : Kind} (seq : BitVec 6) (payload : List Byte) (s : State) {v : QFrame}
    (hlen : 8 ≤ s.link.queue.length) (hv : victimFor k s.link = some v) : offer k seq payload s =
      ({ notify v .dropped s with link := enqueue k seq payload (removeFrame v.id s.link) }, some s.link.nextId) := by
  rw [offer, if_neg (by exact Nat.not_lt.2 hlen), hv]
  dsimp only
  rw [notify_eq, notify_eq]
  rfl

theorem cancelFrame_attempt (s : State) (pre post : List QFrame) (g : QFrame) (hq : s.link.queue = pre ++ g :: post)
    (ha : s.link.attempt = some g.id) : cancelFrame g.id s = { s with link := { s.link with cancelled := true } } := by
  rw [cancelFrame, if_pos (by simp [hq]), if_pos ha]

theorem cancelFrame_absent (s : State) (id : Nat) (h : ∀ g ∈ s.link.queue, g.id ≠ id) : cancelFrame id s = s :=
  if_neg (by simpa using h)

/-- Settles O48: room, refusal, displacement, then the three cancellations. -/
theorem queueOffers : Obligations.QueueOffers := by
  intro s k seq payload new
  refine ⟨fun h => offer_room k seq payload s h, fun h hv => offer_refused k seq payload s h (victimFor_none hv),
    fun pre post v hlen hq hid hatt hk hpre hpost => ?_,
    fun pre post v hq hid => ⟨cancelFrame_attempt s pre post v hq, cancelFrame_waiting s pre post v hq hid⟩,
    cancelFrame_absent s⟩
  rw [offer_displaces seq payload s hlen (victimFor_eq pre post v hq hatt hk hpre hpost), notify_eq,
    removeFrame_eq s.link pre post v hq hid]
  rfl

end Sys2Proof.Machine
end

section
/-! The form of a frame on the pair: its bits, its check register, its recessive runs. -/

namespace Sys2Proof.Machine

/-! ### Bits of a number -/

@[simp] theorem bitsOf_length (w n : Nat) : (bitsOf w n).length = w := by
  induction w with
  | zero => rfl
  | succ w ih => rw [bitsOf, List.length_cons, ih]

theorem bitsOf_succ (w n : Nat) : bitsOf (w + 1) n = n.testBit w :: bitsOf w n := by
  rw [bitsOf, Nat.testBit_eq_decide_div_mod_eq]
  rfl

/-- The bits stand most significant first (R61). -/
theorem bitsOf_getElem? {w i : Nat} (n : Nat) (h : i < w) : (bitsOf w n)[i]? = some (n.testBit (w - 1 - i)) := by
  induction w generalizing i with
  | zero => exact absurd h (Nat.not_lt_zero i)
  | succ w ih =>
    rw [bitsOf_succ]
    cases i with
    | zero => rfl
    | succ i =>
      rw [List.getElem?_cons_succ, ih (Nat.lt_of_succ_lt_succ h)]
      congr 2
      omega

/-! ### Label, length and payload -/

/-- The bits of the payload (R61). -/
def payloadBits (payload : List Byte) : List Bool := payload.flatMap fun b => bitsOf 8 b.toNat

theorem bodyBits_eq (k : Kind) (p : Pos) (seq : BitVec 6) (payload : List Byte) : bodyBits k p seq payload =
    (bitsOf 12 (labelOf k p seq) ++ bitsOf 5 payload.length) ++ payloadBits payload := rfl

theorem payloadBits_length (payload : List Byte) : (payloadBits payload).length = 8 * payload.length := by
  induction payload with
  | nil => rfl
  | cons b bs ih =>
    rw [payloadBits, List.flatMap_cons, List.length_append, bitsOf_length, List.length_cons]
    rw [payloadBits] at ih
    omega

theorem payloadBits_getElem? {payload : List Byte} {j : Nat} {b : Byte} (h : payload[j]? = some b) {i : Nat}
    (hi : i < 8) : (payloadBits payload)[8 * j + i]? = some (b.getLsbD (7 - i)) := by
  induction payload generalizing j with
  | nil => simp at h
  | cons c cs ih =>
    rw [payloadBits, List.flatMap_cons]
    cases j with
    | zero =>
      cases h
      rw [List.getElem?_append_left (by rw [bitsOf_length]; omega), Nat.mul_zero, Nat.zero_add, bitsOf_getElem? _ hi,
        BitVec.testBit_toNat]
    | succ j =>
      rw [List.getElem?_append_right (by rw [bitsOf_length]; omega), bitsOf_length,
        show 8 * (j + 1) + i - 8 = 8 * j + i by omega]
      exact ih h

theorem bodyBits_label (k : Kind) (p : Pos) (seq : BitVec 6) (payload : List Byte) {i : Nat} (h : i < 12) :
    (bodyBits k p seq payload)[i]? = some ((labelOf k p seq).testBit (11 - i)) := by
  rw [bodyBits_eq, List.append_assoc, List.getElem?_append_left (by rwa [bitsOf_length]), bitsOf_getElem? _ h]

theorem bodyBits_lengthField (k : Kind) (p : Pos) (seq : BitVec 6) (payload : List Byte) {i : Nat} (h : i < 5) :
    (bodyBits k p seq payload)[12 + i]? = some (payload.length.testBit (4 - i)) := by
  rw [bodyBits_eq, List.append_assoc, List.getElem?_append_right (by rw [bitsOf_length]; omega), bitsOf_length,
    Nat.add_sub_cancel_left, List.getElem?_append_left (by rwa [bitsOf_length]), bitsOf_getElem? _ h]

theorem bodyBits_payload (k : Kind) (p : Pos) (seq : BitVec 6) {payload : List Byte} {j : Nat} {b : Byte}
    (h : payload[j]? = some b) {i : Nat} (hi : i < 8) :
    (bodyBits k p seq payload)[17 + 8 * j + i]? = some (b.getLsbD (7 - i)) := by
  rw [bodyBits_eq, List.getElem?_append_right (by simp; omega),
    show 17 + 8 * j + i - (bitsOf 12 (labelOf k p seq) ++ bitsOf 5 payload.length).length = 8 * j + i by simp; omega]
  exact payloadBits_getElem? h hi

theorem bodyBits_length (k : Kind) (p : Pos) (seq : BitVec 6) (payload : List Byte) :
    (bodyBits k p seq payload).length = 17 + 8 * payload.length := by
  rw [bodyBits_eq, List.length_append, List.length_append, bitsOf_length, bitsOf_length, payloadBits_length]

/-! ### The check register -/

theorem checkOfBits_append (l m : List Bool) : checkOfBits (l ++ m) = m.foldl checkBit (checkOfBits l) :=
  List.foldl_append

/-- The generator's bits below x^16 (R63). -/
theorem checkPoly_bit {i : Nat} (h : i < 16) : Config.checkPoly.getLsbD i = decide (i ∈ [0, 2, 6, 11, 13]) := by
  have hall : ∀ j : Fin 16, Config.checkPoly.getLsbD j = decide (j.val ∈ [0, 2, 6, 11, 13]) := by decide
  exact hall ⟨i, h⟩

/-- One bit into the register, bit by bit (R63). -/
theorem checkBit_bit (reg : BitVec 16) (b : Bool) {i : Nat} (h : i < 16) : (checkBit reg b).getLsbD i =
    ((decide (0 < i) && reg.getLsbD (i - 1)) ^^ ((b ^^ reg.getLsbD 15) && decide (i ∈ [0, 2, 6, 11, 13]))) := by
  have hshift : (reg <<< 1).getLsbD i = (decide (0 < i) && reg.getLsbD (i - 1)) := by
    rw [BitVec.getLsbD_shiftLeft]
    cases i <;> simp [h]
  unfold checkBit
  dsimp only
  split
  · rename_i hb
    have hx : (b ^^ reg.getLsbD 15) = true := hb
    rw [BitVec.getLsbD_xor, hshift, checkPoly_bit h, hx, Bool.true_and]
  · rename_i hb
    have hx : (b ^^ reg.getLsbD 15) = false := Bool.eq_false_iff.2 hb
    rw [hshift, hx, Bool.false_and, Bool.xor_false]

/-- A bit equal to bit 15 only shifts the register (R63). -/
theorem checkBit_shift {reg : BitVec 16} {b : Bool} (h : reg.getLsbD 15 = b) : checkBit reg b = reg <<< 1 :=
  if_neg (by rw [h]; simp)

/-- The register runs out over its own bits. -/
theorem foldl_checkBit_own (reg : BitVec 16) {w k : Nat} (h : k + w = 16) :
    (bitsOf w reg.toNat).foldl checkBit (reg <<< k) = reg <<< 16 := by
  induction w generalizing k with
  | zero => exact congrArg (reg <<< ·) h
  | succ w ih =>
    have htop : (reg <<< k).getLsbD 15 = reg.toNat.testBit w := by
      rw [BitVec.getLsbD_shiftLeft, BitVec.testBit_toNat, show 15 - k = w by omega]
      simp
      omega
    rw [bitsOf_succ, List.foldl_cons, checkBit_shift htop, ← BitVec.shiftLeft_add]
    exact ih (by omega)

theorem checkOfBits_own (l : List Bool) : checkOfBits (l ++ bitsOf 16 (checkOfBits l).toNat) = 0 := by
  have h := foldl_checkBit_own (checkOfBits l) (w := 16) (k := 0) rfl
  rw [BitVec.shiftLeft_zero] at h
  rw [checkOfBits_append, h]
  exact BitVec.shiftLeft_eq_zero le_rfl

/-! ### Recessive runs -/

/-- A recessive run does not reach across a dominant bit. -/
theorem recessive_split {n : Nat} {a b : List Bool} (h : List.replicate (n + 1) true <:+: a ++ false :: b) :
    List.replicate (n + 1) true <:+: a ∨ List.replicate (n + 1) true <:+: b := by
  rcases List.infix_append_iff.1 h with h | h | ⟨l, m, hl, hsuffix, hprefix⟩
  · exact .inl h
  · rcases List.infix_cons_iff.1 h with h | h
    · rcases List.prefix_cons_iff.1 h with h | ⟨t, h, _⟩
      · simp at h
      · simp [List.replicate_succ] at h
    · exact .inr h
  · rcases List.prefix_cons_iff.1 hprefix with rfl | ⟨t, rfl, _⟩
    · rw [List.append_nil] at hl
      exact .inl (hl ▸ hsuffix.isInfix)
    · have hmem : false ∈ List.replicate (n + 1) true := hl ▸ by simp
      exact absurd (List.eq_of_mem_replicate hmem) (by decide)

theorem not_nine_recessive {run : Nat} (h : run ≤ 8) : ¬ List.replicate 9 true <:+: List.replicate run true := fun hi =>
  absurd hi.length_le (by simp; omega)

/-- With `run` recessive bits just sent, the fill bits keep every run below nine (R61). -/
theorem fill_runs {run : Nat} (l : List Bool) (h : run < 8) :
    ¬ List.replicate 9 true <:+: List.replicate run true ++ fill run l := by
  induction l generalizing run with
  | nil =>
    rw [fill, List.append_nil]
    exact not_nine_recessive (Nat.le_of_lt h)
  | cons b l ih =>
    have hzero := ih (run := 0) (by decide)
    cases b with
    | false =>
      rw [fill]
      exact fun hi => (recessive_split hi).elim (not_nine_recessive (Nat.le_of_lt h)) hzero
    | true =>
      rw [fill]
      split
      · rw [List.append_cons, ← List.replicate_succ']
        exact fun hi => (recessive_split hi).elim (not_nine_recessive h) hzero
      · rename_i hne
        rw [List.append_cons, ← List.replicate_succ']
        refine ih ?_
        simp only [Config.fillRun, beq_iff_eq] at hne
        omega

theorem wireBits_runs (k : Kind) (p : Pos) (seq : BitVec 6) (payload : List Byte) :
    ¬ List.replicate 9 true <:+: wireBits k p seq payload := by
  have hnil : ¬ List.replicate 9 true <:+: ([] : List Bool) := not_nine_recessive (run := 0) (by decide)
  intro h
  rcases recessive_split (b := []) h with h | h
  · exact (recessive_split (a := []) h).elim hnil (fill_runs (run := 0) _ (by decide))
  · exact hnil h

/-- Settles O17: the bits of a frame, the register bit by bit, the register over its own check. -/
theorem wireForm : Obligations.WireForm := by
  refine ⟨fun k p seq payload => ⟨wireBits_runs k p seq payload, ?_, rfl, List.getLast?_concat, fun i hi =>
    bodyBits_label k p seq payload hi, fun i hi => bodyBits_lengthField k p seq payload hi, fun j b hb i hi =>
    bodyBits_payload k p seq hb hi, rfl⟩, ⟨rfl, fun l b i hi => ?_⟩, checkOfBits_own⟩
  · rw [bodyBits_length]
    omega
  · rw [checkOfBits_append]
    exact checkBit_bit _ _ hi

end Sys2Proof.Machine
end

section
/-! Frames read back from the pair: labels, TRAIN and PRESENCE payloads, and the receiver against the sender. -/

namespace Sys2Proof.Machine

/-! ### Labels -/

theorem kindOf_kindValue (k : Kind) : kindOf (kindValue k) = k := by cases k <;> rfl

/-- The three fields of a label (R62, R175). -/
theorem labelOf_parts (k : Kind) (p : Pos) (seq : BitVec 6) : labelOf k p seq < 4096 ∧
    labelOf k p seq / 512 = kindValue k ∧ labelOf k p seq / 64 % 8 = p.val ∧ labelOf k p seq % 64 = seq.toNat := by
  have hk := kindValue_le k
  have hp := p.isLt
  have hs := seq.isLt
  unfold labelOf
  omega

theorem labelOf_lt {k k' : Kind} (p p' : Pos) (seq seq' : BitVec 6) (h : kindValue k < kindValue k') :
    labelOf k p seq < labelOf k' p' seq' := by
  have hp := p.isLt
  have hs := seq.isLt
  unfold labelOf
  omega

/-! ### TRAIN and PRESENCE payloads -/

/-- The fields of a TRAIN frame (R177). -/
theorem get_trainPayload (sub : Nat) (d : Direction) (n : BitVec 8) (o v : Nat) (r x : Bool) :
    get1 (trainPayload sub d n o v r x) 0 = sub % 256 ∧ get1 (trainPayload sub d n o v r x) 1 = dirCode d % 256 ∧
    (trainPayload sub d n o v r x).getD 2 0 = n ∧ get2 (trainPayload sub d n o v r x) 3 = o % 65536 ∧
    get2 (trainPayload sub d n o v r x) 5 = v % 65536 ∧
    get1 (trainPayload sub d n o v r x) 7 = (bitAt r 0 + bitAt x 1) % 256 :=
  ⟨get1_byte1 _, get1_byte1 _, rfl, get2_byte2 _, get2_byte2 _, get1_byte1 _⟩

/-- A TRAIN frame's receiver rebuilds what its sender put in (R177). -/
theorem readTrain_trainPayload (p : Pos) {sub : Nat} (d : Direction) (n : BitVec 8) {o v : Nat} (r x : Bool)
    (hsub : sub < 256) (ho : o < 65536) (hv : v < 65536) : readTrain p (trainPayload sub d n o v r x) =
      { sender := p, subtype := sub, dir := d, trainNo := n, ordinal := o, vehicles := v, reversed := r, desync := x } := by
  obtain ⟨hsubtype, hdirByte, hnumber, hordinal, hvehicles, hmarks⟩ := get_trainPayload sub d n o v r x
  have hd := dirCode_lt d
  have hr := r.toNat_lt
  have hx := x.toNat_lt
  have hdir : dirOf (bitOf (dirCode d % 256) 0) = d := dirOf_eq (by omega)
  have hreversed : bitOf ((bitAt r 0 + bitAt x 1) % 256) 0 = r := bitOf_eq (by rw [bitAt_eq, bitAt_eq]; omega)
  have hdesync : bitOf ((bitAt r 0 + bitAt x 1) % 256) 1 = x := bitOf_eq (by rw [bitAt_eq, bitAt_eq]; omega)
  simp only [readTrain, hsubtype, hdirByte, hnumber, hordinal, hvehicles, hmarks, hdir, hreversed, hdesync,
    Nat.mod_eq_of_lt hsub, Nat.mod_eq_of_lt ho, Nat.mod_eq_of_lt hv]

/-- The fault byte has one bit for each station fault (R17, R177). -/
theorem faultByte_eq (fs : FaultSet) : BitVec.ofNat 8 fs.code =
    (if fs.zeroLimit = true then 1 else 0) + (if fs.idleOverrange = true then 2 else 0) +
      (if fs.positionClash = true then 4 else 0) + (if fs.linkFailure = true then 8 else (0 : Byte)) := by
  obtain ⟨a, b, c, d⟩ := fs
  revert a b c d
  decide

theorem presenceReady_iff (c : ConfigState) (l : LastRefusal) (zL zR : ZeroState) (fs : FaultSet) (n sec : Nat)
    (t : BitVec 8) : presenceReady (presencePayload c l zL zR fs n sec t) = true ↔ c = .ready := by
  have hget : get1 (presencePayload c l zL zR fs n sec t) 0 = c.code % 256 := get1_byte1 _
  rw [presenceReady, hget, beq_iff_eq]
  cases c <;> decide

/-- Settles O19: labels, their order, TRAIN payloads, PRESENCE payloads. -/
theorem labelsAndStatusReadBack : Obligations.LabelsAndStatusReadBack := by
  refine ⟨fun k p q => ?_, fun k k' p p' q q' h => labelOf_lt p p' q q' h, fun p sub d n o v r x hsub ho hv =>
    ⟨readTrain_trainPayload p d n r x hsub ho hv, rfl⟩, fun c l zL zR fs n sec t => ⟨?_, presenceReady_iff ..⟩⟩
  · obtain ⟨hlt, hkind, hpos, hseq⟩ := labelOf_parts k p q
    exact ⟨hlt, hkind ▸ kindOf_kindValue k, hpos, hseq⟩
  · refine congrArg₂ List.cons ?_ (congrArg₂ List.cons ?_ (congrArg₂ List.cons ?_ (congrArg₂ List.cons ?_
      (congrArg₂ List.cons (faultByte_eq fs) rfl))))
    · cases c <;> rfl
    · cases l <;> rfl
    · cases zL <;> rfl
    · cases zR <;> rfl

/-! ### The receiver against the sender -/

/-- The bits still to come on the pair when a receiver has a recessive run of `run` and the sender has the bits `l` left:
after eight recessive bits the fill bit comes first (R61). -/
def onPair (run : Nat) (l : List Bool) : List Bool :=
  if run = Config.fillRun then false :: fill 0 l else fill run l

/-- The recessive run after one more bit that is no fill bit. -/
def runAfter (run : Nat) (b : Bool) : Nat := if b then run % Config.fillRun + 1 else 0

theorem runAfter_le {run : Nat} (b : Bool) : runAfter run b ≤ 8 := by
  unfold runAfter
  split
  · exact Nat.mod_lt run (by decide : 0 < 8)
  · exact Nat.zero_le 8

theorem takeBit_plain {run : Nat} (h : run ≠ 8) (b : Bool) (rest : List Bool) :
    takeBit run (b :: rest) = .got b (if b then run + 1 else 0) rest := if_neg (by simpa [Config.fillRun] using h)

theorem onPair_plain {run : Nat} (h : run ≠ 8) (l : List Bool) : onPair run l = fill run l := if_neg h

/-- The receiver takes the sender's next bit, whatever fill bit precedes it (R61, R68). -/
theorem takeBit_onPair {run : Nat} (h : run ≤ 8) (b : Bool) (l rest : List Bool) :
    takeBit run (onPair run (b :: l) ++ rest) = .got b (runAfter run b) (onPair (runAfter run b) l ++ rest) := by
  have hfill : ∀ n, n < 8 → fill n (b :: l) = b :: onPair (runAfter n b) l := fun n hn => by
    cases b with
    | false => rfl
    | true =>
      have hmod : runAfter n true = n + 1 := congrArg (· + 1) (Nat.mod_eq_of_lt hn)
      rw [fill, onPair, hmod]
      by_cases hlast : n + 1 = Config.fillRun <;> simp [hlast]
  by_cases hrun : run = 8
  · subst hrun
    have hdue : onPair 8 (b :: l) = false :: fill 0 (b :: l) := if_pos rfl
    have hsame : runAfter 8 b = runAfter 0 b := rfl
    rw [hdue, hfill 0 (by decide), hsame]
    cases b <;> rfl
  · have hmod : runAfter run b = if b then run + 1 else 0 := by
      rw [runAfter, Nat.mod_eq_of_lt (by exact Nat.lt_of_le_of_ne h hrun)]
    rw [onPair_plain hrun, hfill run (by omega), List.cons_append, takeBit_plain hrun, hmod]

/-- The receiver takes the sender's next bits and no others (R61, R68). -/
theorem takeBits_onPair {run : Nat} (h : run ≤ 8) (l m rest : List Bool) : ∃ run', run' ≤ 8 ∧
    takeBits l.length run (onPair run (l ++ m) ++ rest) = .got l run' (onPair run' m ++ rest) := by
  induction l generalizing run with
  | nil => exact ⟨run, h, rfl⟩
  | cons b l ih =>
    obtain ⟨run', hle, ht⟩ := ih (runAfter_le (run := run) b)
    refine ⟨run', hle, ?_⟩
    rw [List.length_cons, takeBits, List.cons_append, takeBit_onPair h]
    dsimp only
    rw [ht]

/-- The end mark is taken after a fill bit that may be due (R61, R68). -/
theorem takeBit_endMark {run : Nat} (h : run ≤ 8) (rest : List Bool) :
    takeBit run (onPair run [] ++ false :: rest) = .got false 0 rest := by
  by_cases hrun : run = 8
  · subst hrun
    rfl
  · rw [onPair_plain hrun, fill, List.nil_append, takeBit_plain hrun]
    rfl

/-! ### Numbers from their bits -/

theorem foldl_bitsOf (w n a : Nat) :
    (bitsOf w n).foldl (fun n b => n * 2 + b.toNat) a = a * 2 ^ w + n % 2 ^ w := by
  induction w generalizing a with
  | zero => simp [bitsOf, Nat.mod_one]
  | succ w ih =>
    have hbit : (n / 2 ^ w % 2 == 1).toNat = n / 2 ^ w % 2 := by
      rcases Nat.mod_two_eq_zero_or_one (n / 2 ^ w) with h | h <;> rw [h] <;> rfl
    rw [bitsOf, List.foldl_cons, ih, hbit, Nat.mod_pow_succ, Nat.pow_succ]
    ring

theorem numberOf_bitsOf {w n : Nat} (h : n < 2 ^ w) : numberOf (bitsOf w n) = n := by
  rw [numberOf, foldl_bitsOf, Nat.zero_mul, Nat.zero_add, Nat.mod_eq_of_lt h]

theorem bytesOf_payloadBits (payload : List Byte) (l : List Bool) :
    bytesOf payload.length (payloadBits payload ++ l) = payload := by
  induction payload with
  | nil => rfl
  | cons b bs ih =>
    have hcons : payloadBits (b :: bs) ++ l = bitsOf 8 b.toNat ++ (payloadBits bs ++ l) := by
      rw [payloadBits, List.flatMap_cons, List.append_assoc]
      rfl
    rw [List.length_cons, bytesOf, hcons, List.take_left' (bitsOf_length 8 _), List.drop_left' (bitsOf_length 8 _),
      numberOf_bitsOf b.isLt, ih, BitVec.ofNat_toNat, BitVec.setWidth_eq]

theorem frameOf_label (k : Kind) (p : Pos) (seq : BitVec 6) (payload : List Byte) (check : BitVec 16) :
    frameOf (labelOf k p seq) payload check.toNat =
      { position := p, sequence := seq, payload := payload, check := check } := by
  obtain ⟨_, _, hpos, hseq⟩ := labelOf_parts k p seq
  have hp : Fin.ofNat 8 (labelOf k p seq / 64) = p := Fin.ext hpos
  have hs : BitVec.ofNat 6 (labelOf k p seq) = seq := BitVec.eq_of_toNat_eq ((BitVec.toNat_ofNat _ _).trans hseq)
  rw [frameOf, hp, hs, BitVec.ofNat_toNat, BitVec.setWidth_eq]

/-- The head of a frame: label and length (R61). -/
def headBits (k : Kind) (p : Pos) (seq : BitVec 6) (payload : List Byte) : List Bool :=
  bitsOf 12 (labelOf k p seq) ++ bitsOf 5 payload.length

/-- What follows the head: payload and check (R61). -/
def tailBits (k : Kind) (p : Pos) (seq : BitVec 6) (payload : List Byte) : List Bool :=
  payloadBits payload ++ bitsOf 16 (frameCheck k p seq payload).toNat

section Frame
variable (k : Kind) (p : Pos) (seq : BitVec 6) (payload : List Byte)

theorem headBits_length : (headBits k p seq payload).length = 17 := by
  rw [headBits, List.length_append, bitsOf_length, bitsOf_length]

theorem tailBits_length : (tailBits k p seq payload).length = 8 * payload.length + 16 := by
  rw [tailBits, List.length_append, payloadBits_length, bitsOf_length]

/-- After its start mark a frame stands on the pair as head, tail and end mark (R61). -/
theorem wireBits_onPair (rest : List Bool) : (wireBits k p seq payload).drop 1 ++ rest =
    onPair 0 (headBits k p seq payload ++ (tailBits k p seq payload ++ [])) ++ false :: rest := by
  have hbits : bodyBits k p seq payload ++ bitsOf 16 (frameCheck k p seq payload).toNat =
      headBits k p seq payload ++ (tailBits k p seq payload ++ []) := by
    rw [List.append_nil, bodyBits_eq, headBits, tailBits, List.append_assoc]
  rw [← hbits, List.append_cons]
  rfl

/-- The head spells the label and the length (R61, R62). -/
theorem headBits_read (h : payload.length ≤ 24) : numberOf ((headBits k p seq payload).take 12) = labelOf k p seq ∧
    numberOf ((headBits k p seq payload).drop 12) = payload.length := by
  rw [headBits, List.take_left' (bitsOf_length 12 _), List.drop_left' (bitsOf_length 12 _)]
  exact ⟨numberOf_bitsOf (labelOf_parts k p seq).1, numberOf_bitsOf (Nat.lt_of_le_of_lt h (by decide))⟩

/-- The tail spells the payload and the check (R61, R63). -/
theorem tailBits_read : bytesOf payload.length (tailBits k p seq payload) = payload ∧
    numberOf ((tailBits k p seq payload).drop (8 * payload.length)) = (frameCheck k p seq payload).toNat := by
  rw [tailBits, List.drop_left' (payloadBits_length payload)]
  exact ⟨bytesOf_payloadBits payload _, numberOf_bitsOf (frameCheck k p seq payload).isLt⟩

end Frame

/-- Settles O16: the receiver takes the head, then the tail that the head's length asks for, then the end mark. -/
theorem frameReadsBack : Obligations.FrameReadsBack := by
  intro k p seq payload rest hlen
  obtain ⟨run, hrun, hhead⟩ := takeBits_onPair (Nat.zero_le 8) (headBits k p seq payload)
    (tailBits k p seq payload ++ []) (false :: rest)
  obtain ⟨run', hrun', htail⟩ := takeBits_onPair hrun (tailBits k p seq payload) [] (false :: rest)
  obtain ⟨hlabel, hlength⟩ := headBits_read k p seq payload hlen
  obtain ⟨hbytes, hcheck⟩ := tailBits_read k p seq payload
  obtain ⟨_, hkind, _, _⟩ := labelOf_parts k p seq
  rw [headBits_length] at hhead
  rw [tailBits_length] at htail
  rw [wireBits_onPair, receiveBits, hhead]
  dsimp only
  rw [hlabel, hlength, if_neg (by exact Nat.not_lt.2 hlen), htail]
  dsimp only
  rw [takeBit_endMark hrun', hbytes, hcheck, hkind, kindOf_kindValue, frameOf_label]

end Sys2Proof.Machine
end

section
/-! Peers at the Roster: frames, a decision's reports, the release at a close, the expected set. -/

namespace Sys2Proof.Machine

/-! ### Frames -/

/-- A frame from the peer (R79). -/
theorem heard_eq (e : RosterEntry) :
    heard e = ⟨if e.state = .desync then .desync else .live, e.ready, 0, e.slips⟩ := by
  unfold heard
  split <;> simp [*]

/-- The Roster takes a station frame (R79, R80). -/
theorem rosterTake_eq (k : Kind) (f : RxFrame) (s : State) : rosterTake k f s =
    (let e := s.roster[f.position]
     { s with roster := s.roster.set f.position ⟨if e.state = .desync then .desync else .live,
        readyWord k f.payload e.ready, 0, e.slips⟩ }) := by
  unfold rosterTake updatePeer
  dsimp only
  rw [heard_eq]

theorem presenceFrame_accepted (s : State) (f : RxFrame) (hs : s.strapFault = false) (hl : s.listening)
    (ha : s.accepts .presence f) : exec (.presenceFrame f) s = .next (rosterTake .presence f s.delivered) :=
  (inService_next _ s hs).trans (congrArg _ (receiveFrame_accepted .presence f _ s hl ha))

theorem dissentFrame_accepted (s : State) (f : RxFrame) (hs : s.strapFault = false) (hl : s.listening)
    (ha : s.accepts .dissent f) : exec (.dissentFrame f) s = .next (rosterTake .dissent f s.delivered) :=
  (inService_next _ s hs).trans (congrArg _ (receiveFrame_accepted .dissent f _ s hl ha))

/-! ### Reports of a decision -/

/-- The rows of R82 for a peer reported absent. -/
theorem reportPresence_absent (e : RosterEntry) :
    (e.state = .live → e.misses < 2 → reportPresence false e = { e with misses := e.misses + 1 }) ∧
    (e.state = .live → e.misses = 2 → reportPresence false e = { e with state := .silent, misses := 3 }) ∧
    (e.state = .silent → reportPresence false e = { e with misses := 3 }) ∧
    (e.state = .desync → reportPresence false e = { e with misses := min (e.misses + 1) 3 }) ∧
    (e.state = .unknown → reportPresence false e = e) := by
  refine ⟨fun h hm => ?_, fun h hm => ?_, fun h => ?_, fun h => ?_, fun h => ?_⟩
  · simp [reportPresence, h, hm]
  · simp [reportPresence, h, hm]
  all_goals simp [reportPresence, h]

/-- The rows of R84 for a peer judged a slip. -/
theorem reportSlip_slipped (e : RosterEntry) :
    (e.state = .live ∨ e.state = .silent → e.slips < 2 → reportSlip true e = { e with slips := e.slips + 1 }) ∧
    (e.state = .live ∨ e.state = .silent → e.slips = 2 →
      reportSlip true e = { e with state := .desync, slips := 3 }) ∧
    (e.state = .desync → reportSlip true e = { e with slips := 3 }) := by
  refine ⟨fun h hs => ?_, fun h hs => ?_, fun h => by simp [reportSlip, h]⟩
  · rcases h with h | h <;> simp [reportSlip, h, hs]
  · rcases h with h | h <;> simp [reportSlip, h, hs]

/-- A non-slip result of a known peer (R84). -/
theorem reportSlip_kept (e : RosterEntry) (h : e.state ≠ .unknown) : reportSlip false e = { e with slips := 0 } := by
  cases hs : e.state
  case unknown => exact absurd hs h
  all_goals simp [reportSlip, hs]

/-! ### The own position and the peers of a decision -/

theorem reportPeer_own (own : Pos) (c : Collecting) (e : RosterEntry) : reportPeer own c own e = e := if_pos rfl

section Peer
variable {own p : Pos} (c : Collecting) (e : RosterEntry) (hp : p ≠ own)
include hp

/-- A peer that has not contributed is reported absent when it was expected (R82). -/
theorem reportPeer_silent (hc : c.contribs[p] = none) :
    reportPeer own c p e = if c.expected[p] then reportPresence false e else e := by
  rw [reportPeer, if_neg hp, hc]
  rfl

/-- An expected peer that has contributed is reported present, with its slip result if it has one (R82, R84, R111). -/
theorem reportPeer_present (he : c.expected[p] = true) {q : Partial} (hc : c.contribs[p] = some q) :
    reportPeer own c p e = (match slipResult c.present ⟨p, q⟩ with
      | none => { e with misses := 0 }
      | some slip => reportSlip slip { e with misses := 0 }) := by
  rw [reportPeer, if_neg hp, hc, he]
  dsimp only [Option.bind]
  cases slipResult c.present ⟨p, q⟩ <;> rfl

end Peer

/-! ### The expected set -/

theorem expectedSet_iff (s : State) (p : Pos) : s.expectedSet[p] = true ↔
    (p = s.own ∧ s.train.standing = .contributing) ∨
      (p ≠ s.own ∧ (s.roster[p]).state = .live ∧ (s.roster[p]).ready = true) := by
  have hget : s.expectedSet[p] = if p = s.own then s.train.standing == .contributing else (s.roster[p]).awaited :=
    Vector.getElem_ofFn p.isLt
  rw [hget]
  by_cases hp : p = s.own
  · simp [hp]
  · simp [hp, RosterEntry.awaited]

/-- Settles O53: frames, the rows of an entry, the reports of a decision, the expected set. -/
theorem rosterEntries : Obligations.RosterEntries := by
  refine ⟨fun s f hs hl => ?_, fun e => ?_, fun own p c e => ?_, expectedSet_iff⟩
  · refine ⟨fun ha => ?_, fun ha => ?_, rosterTake_eq .axle f s, rosterTake_eq .train f s, rosterTake_eq .vehicle f s⟩
    · exact (presenceFrame_accepted s f hs hl ha).trans (congrArg _ (rosterTake_eq .presence f s.delivered))
    · exact (dissentFrame_accepted s f hs hl ha).trans (congrArg _ (rosterTake_eq .dissent f s.delivered))
  · obtain ⟨hlive, hlast, hsilent, hdesync, hunknown⟩ := reportPresence_absent e
    obtain ⟨hslip, hthird, hslips⟩ := reportSlip_slipped e
    refine ⟨rfl, hlive, hlast, hsilent, hdesync, hunknown, hslip, hthird, hslips, reportSlip_kept e, fun h => ?_,
      fun h => ?_⟩
    · rw [releaseEntry_eq, if_pos h]
    · rw [releaseEntry_eq, if_neg h]
  · refine ⟨reportPeer_own own c e, fun hp he hc => ?_, fun hp he hc => ?_, fun q hp he hc => ?_⟩
    · rw [reportPeer_silent c e hp hc, he]
      rfl
    · rw [reportPeer_silent c e hp hc, he]
      rfl
    · exact reportPeer_present c e hp he hc

end Sys2Proof.Machine
end

section
/-! TRAIN-CLOSE frames, and TRAIN-REVERSAL frames that no train takes. -/

namespace Sys2Proof.Machine

/-! ### Delivery beside the Roster -/

/-- Blocks that act on a frame by `g`, which the Roster neither reads nor writes, leave the same in both orders (R72,
R83). What they read of the station is its settings, its train, its link and its Publication Table. -/
theorem deliverStation_by (k : Kind) (f : RxFrame) {others : State → State} (g : State → State) (s : State)
    (h : ∀ t, t.conf = s.conf → t.train = s.train → t.link = s.link → t.pub = s.pub → others t = g t)
    (hg : rosterTake k f (g s) = g (rosterTake k f s)) : deliverStation k f others s = g (rosterTake k f s) := by
  have hlast : others s = g s := h s rfl rfl rfl rfl
  have hfirst : others (rosterTake k f s) = g (rosterTake k f s) := h _ rfl rfl rfl rfl
  rw [deliverStation_eq k f others s (by rw [hlast, hfirst, hg]), hfirst]

/-- A frame that no block but the Roster takes (R72). -/
theorem deliverStation_ignored (k : Kind) (f : RxFrame) {others : State → State} (s : State)
    (h : ∀ t, t.conf = s.conf → t.train = s.train → t.link = s.link → t.pub = s.pub → others t = t) :
    deliverStation k f others s = rosterTake k f s := deliverStation_by k f id s h rfl

theorem holdsTrains_noSite (s : State) (h : s.conf.site = none) : s.holdsTrains = false := by
  rw [holdsTrains_eq, h]
  rfl

theorem trainCloseFrame_accepted (s : State) (f : RxFrame) (hs : s.strapFault = false) (hl : s.listening)
    (ha : s.accepts .train f) : exec (.trainCloseFrame f) s =
      .next (deliverStation .train f (takeTrainFrame trainCloseSubtype f takeTrainClose) s.delivered) :=
  (inService_next _ s hs).trans (congrArg _ (receiveFrame_accepted .train f _ s hl ha))

/-! ### TRAIN-REVERSAL -/

/-- Without a SITE, with another subtype and outside RUNNING a TRAIN-REVERSAL row has no taker but the Roster (R163,
R179). -/
theorem trainReversal_ignored (f : RxFrame) (t : State)
    (h : t.conf.site = none ∨ get1 f.payload 0 ≠ 2 ∨ t.train.state ≠ .running) :
    takeTrainFrame trainReversalSubtype f takeTrainReversal t = t := by
  by_cases hsub : get1 f.payload 0 = trainReversalSubtype
  · rw [takeTrainFrame_own _ _ _ _ hsub]
    rcases h with h | h | h
    · exact if_neg (by simp [holdsTrains_noSite t h])
    · exact absurd hsub h
    · exact if_neg (by simp [h])
  · exact takeTrainFrame_other _ _ _ _ hsub

/-! ### TRAIN-CLOSE -/

/-- Without a SITE and with another subtype a TRAIN-CLOSE row has no taker but the Roster (R162, R179). -/
theorem trainClose_ignored (f : RxFrame) (t : State) (h : t.conf.site = none ∨ get1 f.payload 0 ≠ 3) :
    takeTrainFrame trainCloseSubtype f takeTrainClose t = t := by
  by_cases hsub : get1 f.payload 0 = trainCloseSubtype
  · rw [takeTrainFrame_own _ _ _ _ hsub]
    exact if_neg (by simp [holdsTrains_noSite t (h.resolve_right fun n => n hsub)])
  · exact takeTrainFrame_other _ _ _ _ hsub

section OwnSubtype
variable (f : RxFrame) (t : State) (hsite : t.conf.site ≠ none) (hsub : get1 f.payload 0 = 3)
include hsite hsub

/-- With a train held the first TRAIN-CLOSE is kept (R162). -/
theorem trainClose_held (h : t.train.state ≠ .noTrain) :
    takeTrainFrame trainCloseSubtype f takeTrainClose t = keepClose (readTrain f.position f.payload) t := by
  rw [takeTrainFrame_own trainCloseSubtype _ _ _ hsub, takeTrainClose, if_pos (holdsTrains_of_site t hsite)]
  cases hst : t.train.state
  case noTrain => exact absurd hst h
  all_goals rfl

/-- In NO_TRAIN a TRAIN-CLOSE is held against the own close record (R162). -/
theorem trainClose_noTrain (h : t.train.state = .noTrain) :
    takeTrainFrame trainCloseSubtype f takeTrainClose t = answerClose (readTrain f.position f.payload) t := by
  rw [takeTrainFrame_own trainCloseSubtype _ _ _ hsub, takeTrainClose, if_pos (holdsTrains_of_site t hsite), h]

end OwnSubtype

theorem keepClose_later (r : TrainFrame) (t : State) (h : t.train.peerClose ≠ none) : keepClose r t = t := by
  unfold keepClose
  split
  · exact absurd ‹_› h
  · rfl

theorem keepClose_first (r : TrainFrame) (t : State) (h : t.train.peerClose = none) :
    keepClose r t = { t with train := { t.train with peerClose := some r } } := by
  rw [keepClose, h]

theorem answerClose_absent (r : TrainFrame) (t : State) (h : t.train.closeFrame = none) : answerClose r t = t := by
  rw [answerClose, h]

theorem closeMatches_iff (r : TrainFrame) (c : CloseRecord) :
    closeMatches r c = true ↔ r.ordinal = c.handed ∧ r.vehicles = c.vehicles := by
  simp [closeMatches]

/-- A TRAIN-CLOSE that differs from the own close record changes nothing (R162). -/
theorem answerClose_differs (r : TrainFrame) (t : State) {c : CloseRecord} (hc : t.train.ownClose = some c)
    (h : r.ordinal ≠ c.handed ∨ r.vehicles ≠ c.vehicles) : answerClose r t = t := by
  have hn : ¬ closeMatches r c = true := fun hm => by
    obtain ⟨ho, hv⟩ := (closeMatches_iff r c).1 hm
    exact h.elim (· ho) (· hv)
  unfold answerClose
  split
  · rfl
  · rw [hc]
    exact if_neg hn

/-- One that matches it cancels the own TRAIN-CLOSE (R75, R162). -/
theorem answerClose_matches (r : TrainFrame) (t : State) {c : CloseRecord} {id : Nat} (hc : t.train.ownClose = some c)
    (hf : t.train.closeFrame = some id) (ho : r.ordinal = c.handed) (hv : r.vehicles = c.vehicles) : answerClose r t =
      { cancelFrame id t with train := { (cancelFrame id t).train with closeFrame := none } } := by
  rw [answerClose, hf, hc]
  exact if_pos ((closeMatches_iff r c).2 ⟨ho, hv⟩)

/-- Settles O55: the rows without a taker, with a train held, and in NO_TRAIN. -/
theorem trainCloseTaken : Obligations.TrainCloseTaken := by
  intro s f hs hl ha u
  have hx := trainCloseFrame_accepted s f hs hl ha
  refine ⟨fun h => ?_, fun h => ?_, fun hsite hsub ht => ⟨fun hp => ?_, fun hp => ?_⟩,
    fun hsite hsub ht => ⟨fun hf => ?_, fun c hc => ⟨fun hd => ?_, fun pre post g ho hv hf hq hid hatt => ?_⟩⟩⟩
  · rw [trainReversalFrame_accepted s f hs hl ha, deliverStation_ignored]
    exact fun t hconf htrain _ _ => trainReversal_ignored f t (by rw [hconf, htrain]; exact h)
  · rw [hx, deliverStation_ignored]
    exact fun t hconf _ _ _ => trainClose_ignored f t (by rw [hconf]; exact h)
  · rw [hx, deliverStation_ignored]
    intro t hconf htrain _ _
    rw [trainClose_held f t (by rwa [hconf]) hsub (by rwa [htrain]), keepClose_later _ t (by rwa [htrain])]
  · refine ⟨readTrain f.position f.payload, rfl, hsub, rfl, rfl, rfl, dirOf_bit _, ?_, ?_, ?_⟩
    · simp [readTrain, bitOf]
    · simp [readTrain, bitOf]
    · rw [hx, deliverStation_by _ f
        (fun t => { t with train := { s.train with peerClose := some (readTrain f.position f.payload) } }) _ ?_ rfl]
      intro t hconf htrain _ _
      rw [trainClose_held f t (by rwa [hconf]) hsub (by rwa [htrain]), keepClose_first _ t (by rwa [htrain]), htrain]
      rfl
  · rw [hx, deliverStation_ignored]
    intro t hconf htrain _ _
    rw [trainClose_noTrain f t (by rwa [hconf]) hsub (by rwa [htrain]), answerClose_absent _ t (by rwa [htrain])]
  · rw [hx, deliverStation_ignored]
    intro t hconf htrain _ _
    rw [trainClose_noTrain f t (by rwa [hconf]) hsub (by rwa [htrain]), answerClose_differs _ t (htrain ▸ hc) hd]
  · rw [hx, deliverStation_by _ f
      (fun t => { t with
        train := { s.train with closeFrame := none }
        link := { s.delivered.link with
          queue := pre ++ post
          counted := if s.link.counted = some g.id then none else s.link.counted
          attempts := if s.link.counted = some g.id then 0 else s.link.attempts } }) _ ?_ rfl]
    · rfl
    · intro t hconf htrain hlink _
      rw [trainClose_noTrain f t (by rwa [hconf]) hsub (by rwa [htrain]),
        answerClose_matches _ t (htrain ▸ hc) (htrain ▸ hf) ho hv,
        cancelFrame_waiting t pre post g (hlink ▸ hq) hid (by rw [hlink]; simp [State.delivered, State.received, hatt]),
        htrain, hlink]
      rfl

end Sys2Proof.Machine
end

section
/-! AXLE frames at the Consensus Table: not stored, joining an open entry, making a new one. -/

namespace Sys2Proof.Machine

/-! ### Contributions that are not stored -/

theorem trainTakesAxle_noSite (q : Partial) (s : State) (h : s.conf.site = none) : trainTakesAxle q s = s :=
  if_neg (by simp [holdsTrains_noSite s h])

theorem trainTakesAxle_abandoned (q : Partial) (s : State) (h : s.conf.site ≠ none) (ha : s.train.state = .abandoned) :
    trainTakesAxle q s = restartClose s := by
  rw [trainTakesAxle, if_pos (holdsTrains_of_site s h), ha]

theorem takeContribution_noSite (p : Pos) (q : Partial) (s : State) (h : s.conf.site = none) :
    takeContribution p q s = s := if_neg (by simp [holdsTrains_noSite s h])

theorem takeContribution_otherDir (p : Pos) (q : Partial) (s : State) (h : q.dir ≠ s.train.dir) :
    takeContribution p q s = s := if_neg (by simp [h])

/-- A contribution of the other direction or below next_expected is dropped (R91, R92). -/
theorem takeContribution_dropped (p : Pos) (q : Partial) (s : State) (hsite : s.conf.site ≠ none)
    (hr : s.train.state = .running) (h : q.dir ≠ s.train.dir ∨ q.ordinal < s.table.nextExpected) :
    takeContribution p q s = s := by
  by_cases hd : q.dir = s.train.dir
  · exact takeContribution_late p q s ⟨hsite, hr, hd⟩ (h.resolve_left (· hd))
  · exact takeContribution_otherDir p q s hd

/-! ### Contributions inside the window -/

theorem takeContribution_inWindow (p : Pos) (q : Partial) (s : State) (h : s.takes q.dir)
    (hlo : s.table.nextExpected ≤ q.ordinal) (hhi : q.ordinal ≤ s.table.nextExpected + 15) :
    takeContribution p q s = storeInWindow p q s := by
  rw [takeContribution_eq p q s h, if_neg (Nat.not_lt.2 hlo), forceAdvance_done _ _ s hhi]

theorem isFree_iff (sl : Slot) : sl.isFree = true ↔ sl = .free := by cases sl <;> simp [Slot.isFree]

/-- The lowest-numbered FREE slot (R94). -/
theorem freeSlot_eq {slots : Vector Slot 16} {i : Fin 16} (hi : slots[i] = .free)
    (hlow : ∀ j : Fin 16, j < i → slots[j] ≠ .free) : freeSlot slots = some i := by
  rw [freeSlot, ← Fin.find?_eq_find?_finRange, Fin.find?_eq_some_iff]
  exact ⟨(isFree_iff _).2 hi, fun j hj => Bool.eq_false_iff.2 (mt (isFree_iff _).1 (hlow j hj))⟩

section Entry
variable (p : Pos) (q : Partial) (s : State) {i : Fin 16}

/-- One that finds its entry DECIDED is dropped (R92). -/
theorem storeInWindow_decided (hi : slotOf s.table.slots q.ordinal = some i) {c : Collecting} {a : ConsensusAxle}
    (hc : s.table.slots[i] = .decided c a) : storeInWindow p q s = s := by
  rw [storeInWindow, hi]
  dsimp only
  rw [hc]

theorem storeInWindow_opened (hi : slotOf s.table.slots q.ordinal = some i) {c : Collecting} {e : Tick}
    (hc : s.table.slots[i] = .opened c e) : storeInWindow p q s = storeAt i c p q s := by
  rw [storeInWindow, hi]
  dsimp only
  rw [hc]

theorem storeInWindow_new (hn : slotOf s.table.slots q.ordinal = none) (hi : s.table.slots[i] = .free)
    (hlow : ∀ j : Fin 16, j < i → s.table.slots[j] ≠ .free) : storeInWindow p q s =
      storeAt i (s.newEntry q.ordinal) p q
        { s with table := { s.table with highestOpened := max s.table.highestOpened q.ordinal } } := by
  rw [storeInWindow, hn]
  dsimp only
  rw [freeSlot_eq hi hlow]

end Entry

/-- A stored contribution waits with its deadline set afresh, or decides its entry (R95, R96, R98). -/
theorem storeAt_rows (i : Fin 16) (c : Collecting) (p : Pos) (q : Partial) (s : State) :
    let awaited := (c.place p q).awaitedList.length
    (awaited ≠ 0 → storeAt i c p q s = { s with table := { s.table with slots := s.table.slots.set i (.opened (c.place p q)
      (s.tick + BitVec.ofNat 32 (deadlineTicks s.conf.straps.length awaited q.speed))) } }) ∧
    (awaited = 0 → storeAt i c p q s = handChain (decideEntry i (c.place p q) .complete s)) :=
  ⟨fun h => storeAt_waiting i c p q s (mt (congrArg List.length) h),
    fun h => storeAt_complete i c p q s (List.length_eq_zero_iff.1 h)⟩

/-! ### AXLE_FRAME -/

/-- In RUNNING a frame that is not stored restarts the close timer alone (R92, R160). -/
theorem axleFrame_unstored (s : State) (f : RxFrame) (hs : s.strapFault = false) (hl : s.listening)
    (ha : s.accepts .axle f) (hsite : s.conf.site ≠ none) (hr : s.train.state = .running)
    (h : ∀ t, t.conf = s.conf → t.table = s.table → t.train.state = s.train.state → t.train.dir = s.train.dir →
      takeContribution f.position (readAxle f.payload) t = t) :
    exec (.axleFrame f) s = .next (restartClose (rosterTake .axle f s.delivered)) := by
  rw [axleFrame_running s f hs hl ha hsite hr, h (restartClose s.delivered) rfl rfl rfl rfl,
    h (restartClose (rosterTake .axle f s.delivered)) rfl rfl rfl rfl]
  split <;> rfl

/-- In RUNNING a frame that the Roster takes first and that lies inside the window is stored (R94, R95). -/
theorem axleFrame_stored (s : State) (f : RxFrame) (hs : s.strapFault = false) (hl : s.listening)
    (ha : s.accepts .axle f) (hsite : s.conf.site ≠ none) (hr : s.train.state = .running)
    (hd : (readAxle f.payload).dir = s.train.dir) (hlo : s.table.nextExpected ≤ (readAxle f.payload).ordinal)
    (hhi : (readAxle f.payload).ordinal ≤ s.table.nextExpected + 15) (hfirst : f.rosterLast = false) :
    exec (.axleFrame f) s = .next (storeInWindow f.position (readAxle f.payload)
      (restartClose (rosterTake .axle f s.delivered))) := by
  rw [axleFrame_running s f hs hl ha hsite hr, if_neg (by simp [hfirst]),
    takeContribution_inWindow _ _ (restartClose (rosterTake .axle f s.delivered)) ⟨hsite, hr, hd⟩ hlo hhi]

/-- Settles O56: without a SITE, in ABANDONED, and in RUNNING not stored, joining an entry, making one. -/
theorem axleTaken : Obligations.AxleTaken := by
  intro s f hs hl ha q u v
  have hx := axleFrame_accepted s f hs hl ha
  refine ⟨fun hsite => ?_, fun hsite hst => ?_, fun hsite hr => ⟨fun h => ?_, fun hd hlo hhi =>
    ⟨fun i c a hi hc => ?_, fun i c e hi hc hfirst => ?_, fun i hn hi hlow hfirst => ?_⟩⟩⟩
  · rw [hx, deliverStation_ignored]
    intro t hconf _ _ _
    rw [takeAxleFrame_eq, trainTakesAxle_noSite _ t (hconf ▸ hsite), takeContribution_noSite _ _ t (hconf ▸ hsite)]
  · rw [hx, deliverStation_by .axle f restartClose s.delivered ?_ rfl]
    intro t hconf htrain _ _
    have habandoned : t.train.state = .abandoned := htrain ▸ hst
    rw [takeAxleFrame_eq, trainTakesAxle_abandoned _ t (hconf ▸ hsite) habandoned,
      takeContribution_idle _ _ _ (by rw [restartClose_train]; simp [habandoned])]
  · refine axleFrame_unstored s f hs hl ha hsite hr fun t hconf htable hstate hdir => ?_
    exact takeContribution_dropped _ q t (hconf ▸ hsite) (hstate ▸ hr) (by rwa [hdir, htable])
  · refine axleFrame_unstored s f hs hl ha hsite hr fun t hconf htable hstate hdir => ?_
    rw [takeContribution_inWindow _ _ t ⟨hconf ▸ hsite, hstate ▸ hr, hdir ▸ hd⟩ (htable ▸ hlo) (htable ▸ hhi),
      storeInWindow_decided _ _ t (htable ▸ hi) (htable ▸ hc)]
  · intro c' awaited
    rw [axleFrame_stored s f hs hl ha hsite hr hd hlo hhi hfirst, storeInWindow_opened _ _ _ (by exact hi) (by exact hc)]
    obtain ⟨hwaits, hdecides⟩ := storeAt_rows i c f.position q v
    exact ⟨fun h => congrArg _ (hwaits h), fun h => congrArg _ (hdecides h)⟩
  · intro c' awaited table
    rw [axleFrame_stored s f hs hl ha hsite hr hd hlo hhi hfirst,
      storeInWindow_new _ _ _ (by exact hn) (by exact hi) (by exact hlow)]
    obtain ⟨hwaits, hdecides⟩ := storeAt_rows i (v.newEntry q.ordinal) f.position q { v with table := table }
    exact ⟨fun h => congrArg _ (hwaits h), fun h => congrArg _ (hdecides h)⟩

end Sys2Proof.Machine
end

section
/-! Peers' vehicle records and the station's own at the Publication Table. -/

namespace Sys2Proof.Machine

/-! ### Entries found, written and made -/

theorem findPub_none {v : Nat} {es : List PubEntry} (h : ∀ x ∈ es, x.ordinal ≠ v) : findPub v es = none :=
  List.find?_eq_none.2 fun x hx => by simpa using h x hx

/-- The one entry of an ordinal is found. -/
theorem findPub_unique {v : Nat} {es : List PubEntry} {e : PubEntry} (he : e ∈ es) (hv : e.ordinal = v)
    (h : ∀ x ∈ es, x.ordinal = v → x = e) : findPub v es = some e := by
  cases hf : findPub v es with
  | none => exact absurd hv (by simpa using List.find?_eq_none.1 hf e he)
  | some x => exact congrArg some (h x (List.mem_of_find?_eq_some hf) (by simpa using List.find?_some hf))

theorem findPub_eq {v : Nat} {pre post : List PubEntry} {e : PubEntry} (hv : e.ordinal = v)
    (h : ∀ x ∈ pre ++ post, x.ordinal ≠ v) : findPub v (pre ++ e :: post) = some e := by
  refine findPub_unique (by simp) hv fun x hx hxv => ?_
  rcases List.mem_append.1 hx with hx | hx
  · exact absurd hxv (h x (List.mem_append_left _ hx))
  · exact (List.mem_cons.1 hx).resolve_right fun hx => h x (List.mem_append_right _ hx) hxv

theorem setPub_other {v : Nat} (st : PubState) {es : List PubEntry} (h : ∀ x ∈ es, x.ordinal ≠ v) :
    setPub v st es = es := by
  rw [setPub, List.map_congr_left fun x hx => if_neg (h x hx), List.map_id'']
  exact fun _ => rfl

/-- The one entry of an ordinal is written, the others stay. -/
theorem setPub_eq {v : Nat} (st : PubState) {pre post : List PubEntry} {e : PubEntry} (hv : e.ordinal = v)
    (h : ∀ x ∈ pre ++ post, x.ordinal ≠ v) : setPub v st (pre ++ e :: post) = pre ++ ⟨v, st⟩ :: post := by
  have hpre := setPub_other st fun x hx => h x (List.mem_append_left _ hx)
  have hpost := setPub_other st fun x hx => h x (List.mem_append_right _ hx)
  subst hv
  unfold setPub at *
  rw [List.map_append, List.map_cons, hpre, hpost, if_pos rfl]

theorem setPub_map (v : Nat) (st : PubState) (es : List PubEntry) :
    setPub v st es = es.map fun x => if x.ordinal = v then ⟨v, st⟩ else x := by
  refine List.map_congr_left fun x _ => ?_
  split
  · rename_i hx
    rw [hx]
  · rfl

/-- `kept` holds the entries that a new one finds beside it: all of fewer than 16, and of 16 all but the one of the
lowest ordinal (R143). -/
def PubKept (es kept : List PubEntry) : Prop :=
  es.length < 16 ∧ kept = es ∨ 16 ≤ es.length ∧ ∃ (pre post : List PubEntry) (e : PubEntry), es = pre ++ e :: post ∧
    (∀ x ∈ pre ++ post, e.ordinal < x.ordinal) ∧ kept = pre ++ post

theorem PubKept.subset {es kept : List PubEntry} (h : PubKept es kept) : kept ⊆ es := by
  rcases h with ⟨_, rfl⟩ | ⟨_, pre, post, e, rfl, _, rfl⟩
  · exact List.Subset.refl _
  · exact List.append_subset.2 ⟨List.subset_append_left _ _,
      List.Subset.trans (List.subset_cons_self e post) (List.subset_append_right _ _)⟩

theorem lowestPub_eq {pre post : List PubEntry} {e : PubEntry} (h : ∀ x ∈ pre ++ post, e.ordinal < x.ordinal) :
    lowestPub (pre ++ e :: post) = e.ordinal := by
  have hsplit : (pre ++ e :: post).map PubEntry.ordinal =
      pre.map PubEntry.ordinal ++ e.ordinal :: post.map PubEntry.ordinal := by simp
  rw [lowestPub, hsplit]
  unfold minOf
  split
  · rename_i hn
    simp at hn
  · rename_i a l hl
    refine foldl_choice_eq min_choice hl (fun n hn => ?_) fun n hn => ?_
    · obtain ⟨x, hx, rfl⟩ := List.mem_map.1 hn
      exact min_eq_right (Nat.le_of_lt (h x (List.mem_append_left _ hx)))
    · obtain ⟨x, hx, rfl⟩ := List.mem_map.1 hn
      exact min_eq_left (Nat.le_of_lt (h x (List.mem_append_right _ hx)))

/-- A new entry stands last (R143). -/
theorem createPub_eq {es kept : List PubEntry} (h : PubKept es kept) (x : PubEntry) : createPub x es = kept ++ [x] := by
  rcases h with ⟨hlen, rfl⟩ | ⟨hlen, pre, post, e, rfl, hlow, rfl⟩
  · exact if_pos hlen
  · have hkeep : ∀ y ∈ pre ++ post, (y.ordinal != e.ordinal) = true := fun y hy =>
      bne_iff_ne.2 (Nat.ne_of_gt (hlow y hy))
    rw [createPub, if_neg (by exact Nat.not_lt.2 hlen), lowestPub_eq hlow, List.filter_append,
      List.filter_cons_of_neg (by simp), List.filter_eq_self.2 fun y hy => hkeep y (List.mem_append_left _ hy),
      List.filter_eq_self.2 fun y hy => hkeep y (List.mem_append_right _ hy)]

/-! ### Offers for an entry -/

/-- What an offered VEHICLE frame makes of its entry (R145, R151). -/
def ownState (r : VehicleRecord) (id : Option Nat) : PubState :=
  match id with
  | some id => .queued r id
  | none => .dropped r none

/-- What an offered DISSENT frame makes of its entry (R146, R149, R151). -/
def dissentState (r : VehicleRecord) (peer : PeerRecord) (id : Option Nat) : PubState :=
  match id with
  | some id => .dissentQueued r peer id
  | none => .dropped r (some peer)

theorem noticeEntry_ordinal (id : Nat) (n : Notice) (e : PubEntry) : (noticeEntry id n e).ordinal = e.ordinal := by
  unfold noticeEntry
  split
  · cases n <;> dsimp only <;> split <;> rfl
  · cases n <;> dsimp only <;> split <;> rfl
  all_goals rfl

theorem tellDropped_ordinals (w : Option QFrame) (es : List PubEntry) :
    (tellDropped w es).map PubEntry.ordinal = es.map PubEntry.ordinal := by
  unfold tellDropped
  split
  · rfl
  · split
    · rw [List.map_map]
      exact List.map_congr_left fun e _ => noticeEntry_ordinal _ _ e
    · rfl

/-- A DROPPED notice for another frame leaves a DROPPED entry. -/
theorem tellDropped_append (w : Option QFrame) (es : List PubEntry) (v : Nat) (r : VehicleRecord)
    (p : Option PeerRecord) : tellDropped w (es ++ [⟨v, .dropped r p⟩]) = tellDropped w es ++ [⟨v, .dropped r p⟩] := by
  unfold tellDropped
  split
  · rfl
  · split
    · rw [List.map_append]
      rfl
    · rfl

/-- An own record with no entry makes one, in the state its offer gives it (R143, R145, R151). -/
theorem ownRecordNew_eq (r : VehicleRecord) (s : State) {kept : List PubEntry} (hk : PubKept s.pub kept)
    (h : ∀ x ∈ s.pub, x.ordinal ≠ r.ordinal) : ownRecordNew r s =
      (let offered := offer .vehicle (seqOf r.ordinal) (vehiclePayload r) { s with pub := kept }
       { offered.1 with pub := offered.1.pub ++ [⟨r.ordinal, ownState r offered.2⟩] }) := by
  have hother : ∀ x ∈ tellDropped (displaced .vehicle s.link) kept, x.ordinal ≠ r.ordinal := fun x hx => by
    have hmem : x.ordinal ∈ kept.map PubEntry.ordinal :=
      tellDropped_ordinals (displaced .vehicle s.link) kept ▸ List.mem_map_of_mem hx
    obtain ⟨y, hy, hxy⟩ := List.mem_map.1 hmem
    exact hxy ▸ h y (hk.subset hy)
  rw [ownRecordNew, createPub_eq hk, offerVehicle, offer_eq _ _ _ _ (by decide), offer_eq _ _ _ _ (by decide)]
  dsimp only
  rw [tellDropped_append]
  cases offeredId .vehicle s.link with
  | none => rfl
  | some id =>
    have hset : setPub r.ordinal (.queued r id) _ = _ :=
      setPub_eq (e := ⟨r.ordinal, .dropped r none⟩) (post := []) _ rfl (by simpa using hother)
    dsimp only [setPubState]
    rw [hset]
    rfl

/-- Disagreeing records write their entry in the state their offer gives it (R146, R149, R151). -/
theorem dissentFrom_eq (v : Nat) (r : VehicleRecord) (peer : PeerRecord) (s : State) : dissentFrom v r peer s =
    (let offered := offer .dissent (seqOf r.ordinal) (dissentPayload r peer.sender) s
     { offered.1 with pub := setPub v (dissentState r peer offered.2) offered.1.pub }) := by
  unfold dissentFrom offerDissent
  dsimp only
  split
  all_goals
    rename_i heq
    rw [heq]
    rfl

end Sys2Proof.Machine
end

section
/-! VEHICLE_FRAME and own records, case by case. -/

namespace Sys2Proof.Machine

/-! ### Agreement -/

theorem agree_iff (tol : Nat) (own : VehicleRecord) (peer : PeerRecord) : agree tol own peer = true ↔
    own.firstAxle = peer.firstAxle ∧ own.axleCount = peer.axleCount ∧ own.groups.length = peer.groupCount ∧
    own.groups = peer.sizes.take peer.groupCount ∧ ((own.gross : Int) - peer.gross).natAbs ≤ 10 * tol := by
  simp [agree, sameGroups, absDiff_eq_natAbs, and_assoc]

/-- The agree tolerance is a setting (R144). -/
theorem tolerance_congr {s t : State} (h : t.conf = s.conf) : t.tolerance = s.tolerance := by
  unfold State.tolerance State.siteValue
  rw [h]

/-! ### The station's own record -/

theorem takeOwnRecord_new (r : VehicleRecord) (s : State) (h : ∀ x ∈ s.pub, x.ordinal ≠ r.ordinal) :
    takeOwnRecord r s = ownRecordNew r s := by
  rw [takeOwnRecord, findPub_none h]

section OwnEntry
variable {r : VehicleRecord} {s : State} {e : PubEntry} (hf : findPub r.ordinal s.pub = some e)
include hf

theorem takeOwnRecord_kept (h : ∀ peer, e.state ≠ .awaitingOwn peer) : takeOwnRecord r s = s := by
  rw [takeOwnRecord, hf]
  dsimp only
  split
  · exact absurd ‹_› (h _)
  all_goals rfl

theorem takeOwnRecord_awaited {peer : PeerRecord} (he : e.state = .awaitingOwn peer) : takeOwnRecord r s =
    if agree s.tolerance r peer then setPubState r.ordinal (.suppressed r peer) s else dissentFrom r.ordinal r peer s := by
  rw [takeOwnRecord, hf]
  dsimp only
  rw [he]

end OwnEntry

/-- With room in the transmit queue the new entry is QUEUED (R145). -/
theorem takeOwnRecord_queues (r : VehicleRecord) (s : State) (hq : s.link.queue.length < 8) {kept : List PubEntry}
    (hk : PubKept s.pub kept) (h : ∀ x ∈ s.pub, x.ordinal ≠ r.ordinal) : takeOwnRecord r s =
      { s with pub := kept ++ [⟨r.ordinal, .queued r s.link.nextId⟩]
               link := enqueue .vehicle (seqOf r.ordinal) (vehiclePayload r) s.link } := by
  rw [takeOwnRecord_new r s h, ownRecordNew_eq r s hk h, offer_room _ _ _ _ (by exact hq)]
  rfl

/-- With room in the transmit queue a disagreeing entry is DISSENT_QUEUED (R146, R149). -/
theorem dissentFrom_queues (v : Nat) (r : VehicleRecord) (peer : PeerRecord) (s : State)
    (hq : s.link.queue.length < 8) : dissentFrom v r peer s =
      { s with pub := setPub v (.dissentQueued r peer s.link.nextId) s.pub
               link := enqueue .dissent (seqOf r.ordinal) (dissentPayload r peer.sender) s.link } := by
  rw [dissentFrom_eq, offer_room _ _ _ _ hq]
  rfl

/-! ### A peer's record -/

theorem takePeerRecord_new (peer : PeerRecord) (s : State) {kept : List PubEntry} (hz : peer.ordinal ≠ 0)
    (hk : PubKept s.pub kept) (h : ∀ x ∈ s.pub, x.ordinal ≠ peer.ordinal) :
    takePeerRecord peer s = { s with pub := kept ++ [⟨peer.ordinal, .awaitingOwn peer⟩] } := by
  rw [takePeerRecord, if_neg hz, findPub_none h, createPub_eq hk]

section PeerEntry
variable {peer : PeerRecord} {s : State} {e : PubEntry} (hz : peer.ordinal ≠ 0)
  (hf : findPub peer.ordinal s.pub = some e)
include hz hf

theorem takePeerRecord_kept (h : ∀ own ref, e.state ≠ .queued own ref) : takePeerRecord peer s = s := by
  rw [takePeerRecord, if_neg hz, hf]
  dsimp only
  split
  · exact absurd ‹_› (h _ _)
  all_goals rfl

theorem takePeerRecord_queued {own : VehicleRecord} {ref : Nat} (he : e.state = .queued own ref) :
    takePeerRecord peer s = if agree s.tolerance own peer then
        setPubState peer.ordinal (.suppressed own peer) (cancelFrame ref s)
      else dissentFrom peer.ordinal own peer (cancelFrame ref s) := by
  rw [takePeerRecord, if_neg hz, hf]
  dsimp only
  rw [he]
  dsimp only [convertQueued]
  rw [tolerance_congr (cancelFrame_calm ref s).conf]

variable {own : VehicleRecord} {a b : List QFrame} {g : QFrame} (he : e.state = .queued own g.id)
  (hq : s.link.queue = a ++ g :: b) (hid : ∀ x ∈ a ++ b, x.id ≠ g.id) (ha : s.link.attempt = none)
include he hq hid ha

/-- An agreeing record cancels the own VEHICLE frame that waits (R75, R149). -/
theorem takePeerRecord_agrees (hagree : agree s.tolerance own peer = true) : takePeerRecord peer s =
    { s with pub := setPub peer.ordinal (.suppressed own peer) s.pub
             link := { s.link with queue := a ++ b
                                   counted := if s.link.counted = some g.id then none else s.link.counted
                                   attempts := if s.link.counted = some g.id then 0 else s.link.attempts } } := by
  rw [takePeerRecord_queued hz hf he, if_pos hagree, cancelFrame_waiting s a b g hq hid (by simp [ha])]
  rfl

/-- A disagreeing record cancels it too, and a DISSENT frame takes its room (R75, R149). -/
theorem takePeerRecord_disagrees (hlen : s.link.queue.length ≤ 8) (hagree : agree s.tolerance own peer = false) :
    takePeerRecord peer s =
      { s with pub := setPub peer.ordinal (.dissentQueued own peer s.link.nextId) s.pub
               link := { s.link with
                 queue := a ++ b ++ [⟨s.link.nextId, .dissent, seqOf own.ordinal, dissentPayload own peer.sender⟩]
                 counted := if s.link.counted = some g.id then none else s.link.counted
                 attempts := if s.link.counted = some g.id then 0 else s.link.attempts
                 nextId := s.link.nextId + 1 } } := by
  have hroom : (a ++ b).length < 8 := by
    rw [hq] at hlen
    simp at hlen ⊢
    omega
  rw [takePeerRecord_queued hz hf he, if_neg (by simp [hagree]), cancelFrame_waiting s a b g hq hid (by simp [ha]),
    dissentFrom_queues _ _ _ _ hroom]
  rfl

end PeerEntry

/-! ### VEHICLE_FRAME -/

theorem vehicleFrame_accepted (s : State) (f : RxFrame) (hs : s.strapFault = false) (hl : s.listening)
    (ha : s.accepts .vehicle f) :
    exec (.vehicleFrame f) s = .next (deliverStation .vehicle f (takeVehicleFrame f) s.delivered) :=
  (inService_next _ s hs).trans (congrArg _ (receiveFrame_accepted .vehicle f _ s hl ha))

theorem takeVehicleFrame_ignored (f : RxFrame) (t : State)
    (h : t.conf.site = none ∨ (readVehicle f.position f.payload).ordinal = 0) : takeVehicleFrame f t = t := by
  unfold takeVehicleFrame
  split
  · rename_i hh
    refine if_pos (h.resolve_left fun hn => ?_)
    rw [holdsTrains_noSite t hn] at hh
    cases hh
  · rfl

/-- What a peer's record writes of the Publication Table and of the link it writes beside the Roster too, in both orders
(R72, R83). -/
theorem vehicleFrame_writes (s : State) (f : RxFrame) (hs : s.strapFault = false) (hl : s.listening)
    (ha : s.accepts .vehicle f) (hsite : s.conf.site ≠ none) (pub : List PubEntry) (link : LinkControl)
    (h : ∀ t, t.conf = s.conf → t.link = s.delivered.link → t.pub = s.pub →
      takePeerRecord (readVehicle f.position f.payload) t = { t with pub := pub, link := link }) :
    exec (.vehicleFrame f) s = .next { rosterTake .vehicle f s.delivered with pub := pub, link := link } := by
  rw [vehicleFrame_accepted s f hs hl ha,
    deliverStation_by .vehicle f (fun t => { t with pub := pub, link := link }) s.delivered ?_ rfl]
  intro t hconf _ hlink hpub
  exact (if_pos (holdsTrains_of_site t (hconf ▸ hsite))).trans (h t hconf hlink hpub)

/-- Settles O58: a peer's record by its entry, agreement, the own record with room, the own record and any offer. -/
theorem vehiclesTaken : Obligations.VehiclesTaken := by
  refine ⟨fun s f hs hl ha => ?_, agree_iff, fun s r hq => ?_, fun s r => ⟨fun kept hn hk => ?_,
    fun e peer he hv hone hst hd => ?_⟩⟩
  · intro r u
    have hwrites := vehicleFrame_writes s f hs hl ha
    have hfound : ∀ {pre post : List PubEntry} {e : PubEntry} {t : State}, s.pub = pre ++ e :: post →
        e.ordinal = r.ordinal → (∀ x ∈ pre ++ post, x.ordinal ≠ r.ordinal) → t.pub = s.pub →
        findPub r.ordinal t.pub = some e :=
      fun hp hv h ht => (ht.trans hp) ▸ findPub_eq hv h
    refine ⟨fun h => ?_, fun hsite hz => ⟨fun h hlen => ?_, fun pre post e hp hlen hlow h => ?_,
      fun pre post e hp hv h => ⟨fun hst => ?_, fun own a b g hst hq hid hatt hlen => ⟨fun hag => ?_, fun hag => ?_⟩⟩⟩⟩
    · rw [vehicleFrame_accepted s f hs hl ha, deliverStation_ignored]
      exact fun t hconf _ _ _ => takeVehicleFrame_ignored f t (by rw [hconf]; exact h)
    · refine hwrites hsite _ s.delivered.link fun t _ hlink ht => ?_
      rw [takePeerRecord_new r t hz (.inl ⟨ht ▸ hlen, rfl⟩) (ht ▸ h), ht, ← hlink]
    · refine hwrites hsite _ s.delivered.link fun t _ hlink ht => ?_
      rw [takePeerRecord_new r t hz (.inr ⟨ht ▸ hlen, pre, post, e, ht.trans hp, hlow, rfl⟩) (ht ▸ h), ← hlink]
    · refine hwrites hsite s.pub s.delivered.link fun t _ hlink ht => ?_
      rw [takePeerRecord_kept hz (hfound hp hv h ht) hst, ← hlink, ← ht]
    · refine hwrites hsite _ _ fun t hconf hlink ht => ?_
      rw [takePeerRecord_agrees hz (hfound hp hv h ht) hst (hlink ▸ hq) hid (hlink ▸ hatt)
        (tolerance_congr hconf ▸ hag), ht, hp, setPub_eq _ hv h, hlink]
      rfl
    · refine hwrites hsite _ _ fun t hconf hlink ht => ?_
      rw [takePeerRecord_disagrees hz (hfound hp hv h ht) hst (hlink ▸ hq) hid (hlink ▸ hatt) (hlink ▸ hlen)
        (tolerance_congr hconf ▸ hag), ht, hp, setPub_eq _ hv h, hlink]
      rfl
  · refine ⟨fun h hlen => takeOwnRecord_queues r s hq (.inl ⟨hlen, rfl⟩) h, fun pre post e hp hlen hlow h =>
      takeOwnRecord_queues r s hq (.inr ⟨hlen, pre, post, e, hp, hlow, rfl⟩) h, fun pre post e hp hv h => ?_⟩
    have hf : findPub r.ordinal s.pub = some e := hp ▸ findPub_eq hv h
    refine ⟨takeOwnRecord_kept hf, fun peer hst hag => ?_, fun peer hst hag => ?_⟩
    · rw [takeOwnRecord_awaited hf hst, if_pos hag, setPubState, hp, setPub_eq _ hv h]
    · rw [takeOwnRecord_awaited hf hst, if_neg (by simp [hag]), dissentFrom_queues _ _ _ _ hq, hp, setPub_eq _ hv h]
      rfl
  · intro offered state
    have hstate : state = ownState r offered.2 := by
      cases h : offered.2 <;> simp only [state, h, ownState]
    rw [takeOwnRecord_new r s hn, ownRecordNew_eq r s hk hn, hstate]
    rfl
  · intro offered state
    have hstate : state = dissentState r peer offered.2 := by
      cases h : offered.2 <;> simp only [state, h, dissentState]
    rw [takeOwnRecord_awaited (findPub_unique he hv hone) hst, if_neg (by simp [hd]), dissentFrom_eq, hstate]
    exact congrArg (fun pub => { offered.1 with pub := pub }) (setPub_map ..)

end Sys2Proof.Machine
end

section
/-! DEADLINE_EXPIRY. -/

namespace Sys2Proof.Machine

/-! ### A decision before its own slip result -/

/-- The station with the entry of slot `i`, holding `c`, DECIDED and reported to the Roster, the own slip result not yet
taken (R82, R84, R98, R111). -/
def entryDecided (i : Fin 16) (c : Collecting) (t : Trigger) (s : State) : State :=
  { s with
    table := { s.table with slots := s.table.slots.set i (.decided c (decideAxle s.decisionSettings c t))
                            latestSpeed := some (decideAxle s.decisionSettings c t).speed }
    roster := Vector.ofFn fun p : Pos => reportPeer s.own c p s.roster[p] }

theorem decideEntry_eq (i : Fin 16) (c : Collecting) (t : Trigger) (s : State) :
    decideEntry i c t s = takeOwnSlip (ownSlip s.own c) (entryDecided i c t s) := rfl

/-- Without a slip result of the own position a decision ends there (R111). -/
theorem decideEntry_noSlip {s : State} {c : Collecting} (h : ownSlip s.own c = none) (i : Fin 16) (t : Trigger) :
    decideEntry i c t s = entryDecided i c t s := by
  rw [decideEntry_eq, h]
  rfl

theorem ownSlip_absent {own : Pos} {c : Collecting} (h : c.contribs[own] = none) : ownSlip own c = none := by
  rw [ownSlip, h]
  rfl

theorem ownSlip_present {own : Pos} {c : Collecting} {q : Partial} (h : c.contribs[own] = some q) :
    ownSlip own c = slipResult c.present ⟨own, q⟩ := by
  rw [ownSlip, h]
  rfl

/-! ### The expiry -/

theorem exec_deadlineExpiry_due {s : State} {i : Fin 16} {c : Collecting} {e : Tick} (hs : s.strapFault = false)
    (hi : s.table.slots[i] = .opened c e) (h : s.reached e) :
    exec (.deadlineExpiry i) s = .next (handChain (decideEntry i c .deadline s)) := by
  rw [show exec (.deadlineExpiry i) s = .next (deadlineExpiry i s) from inService_next _ s hs, deadlineExpiry, hi]
  exact congrArg _ (if_pos ((tickReached_iff s e).2 h))

theorem exec_deadlineExpiry_early {s : State} {i : Fin 16} {c : Collecting} {e : Tick} (hs : s.strapFault = false)
    (hi : s.table.slots[i] = .opened c e) (h : ¬ s.reached e) : exec (.deadlineExpiry i) s = .next s := by
  rw [show exec (.deadlineExpiry i) s = .next (deadlineExpiry i s) from inService_next _ s hs, deadlineExpiry, hi]
  exact congrArg _ (if_neg (mt (tickReached_iff s e).1 h))

/-! ### The decided entry waits -/

/-- Slots of the same ordinals are found alike (R89). -/
theorem slotOf_congr {old new : Vector Slot 16} (h : ∀ j : Fin 16, (new[j]).ordinal? = (old[j]).ordinal?) (a : Nat) :
    slotOf new a = slotOf old a := by
  unfold slotOf
  simp only [h]

/-- A decision keeps the ordinal of its entry's slot (R88, R98). -/
theorem slotOf_decided {slots : Vector Slot 16} {i : Fin 16} {c : Collecting} {e : Tick} (hi : slots[i] = .opened c e)
    (x : ConsensusAxle) (a : Nat) : slotOf (slots.set i (.decided c x)) a = slotOf slots a := by
  refine slotOf_congr (fun j => ?_) a
  by_cases hj : j = i
  · subst hj
    rw [slot_set_same, hi]
    rfl
  · rw [slot_set_other _ _ hj]

/-- While the entry of next_expected is OPEN no hand-over is due (R100). -/
theorem handStep_collecting {s : State} {j : Fin 16} {c : Collecting} {e : Tick}
    (hs : slotOf s.table.slots s.table.nextExpected = some j) (hj : s.table.slots[j] = .opened c e) :
    handStep s = none := by
  unfold handStep
  rw [hs]
  dsimp only
  rw [hj]

/-- An entry decided while a lower ordinal is still collected waits in DECIDED (R100). -/
theorem handChain_waits {s : State} {i j : Fin 16} {c c' : Collecting} {e e' : Tick}
    (hi : s.table.slots[i] = .opened c e) (hs : slotOf s.table.slots s.table.nextExpected = some j) (hne : j ≠ i) (hj : s.table.slots[j] = .opened c' e')
    (t : Trigger) : handChain (entryDecided i c t s) = entryDecided i c t s :=
  handChain_settled _ <| handStep_collecting (s := entryDecided i c t s) ((slotOf_decided hi _ _).trans hs)
    ((slot_set_other _ _ hne).trans hj)

/-! ### The decided entry is handed over at once -/

theorem slotOf_only {slots : Vector Slot 16} {i : Fin 16} {a : Nat} (hi : (slots[i]).ordinal? = some a)
    (h : ∀ j : Fin 16, j ≠ i → slots[j] = .free) : slotOf slots a = some i := by
  cases hs : slotOf slots a with
  | none => exact absurd hi (slotOf_eq_none.1 hs i)
  | some j =>
    by_cases hj : j = i
    · rw [hj]
    · have ho := slotOf_ordinal hs
      rw [h j hj] at ho
      cases ho

theorem decidedOrdinals_only {slots : Vector Slot 16} {i : Fin 16} (h : ∀ j : Fin 16, j ≠ i → slots[j] = .free)
    {o : Nat} (ho : o ∈ decidedOrdinals slots) : (slots[i]).decidedOrdinal? = some o := by
  obtain ⟨j, hj⟩ := mem_decidedOrdinals_iff.1 ho
  by_cases hji : j = i
  · rwa [hji] at hj
  · rw [h j hji] at hj
    cases hj

theorem slots_freed_only {slots : Vector Slot 16} {i : Fin 16} (h : ∀ j : Fin 16, j ≠ i → slots[j] = .free) :
    slots.set i .free = Vector.replicate 16 .free := slots_eq_free fun j => by
  by_cases hj : j = i
  · rw [hj, slot_set_same]
  · rw [slot_set_other _ _ hj, h j hj]

/-- A DECIDED entry of next_expected that stands alone is handed over, and the chain ends (R100). -/
theorem handChain_only {s : State} {i : Fin 16} {c : Collecting} {a : ConsensusAxle}
    (hi : s.table.slots[i] = .decided c a) (hc : c.ordinal = s.table.nextExpected) (h : ∀ j : Fin 16, j ≠ i → s.table.slots[j] = .free) :
    handChain s = handEntry i a s := by
  have hord : (s.table.slots[i]).ordinal? = some s.table.nextExpected := by
    rw [hi, ← hc]
    rfl
  have hdec : s.table.nextExpected ∈ decidedOrdinals s.table.slots :=
    mem_decidedOrdinals_iff.2 ⟨i, by rw [hi, ← hc]; rfl⟩
  have hmax : maxOf (decidedOrdinals s.table.slots) = s.table.nextExpected := by
    refine le_antisymm (maxOf_le fun o ho => ?_) (le_maxOf hdec)
    have hmem := decidedOrdinals_only h ho
    rw [hi] at hmem
    cases hmem
    exact hc.le
  have hfuel : maxOf (decidedOrdinals s.table.slots) + 1 - s.table.nextExpected = 1 := by omega
  have hstep : handStep s = some (handEntry i a s) := by
    unfold handStep
    rw [slotOf_only hord h]
    dsimp only
    rw [hi]
  rw [handChain, hfuel, handRun, hstep]
  rfl

/-- The only entry of the table, decided at next_expected, is handed over at once (R98, R100, R102). -/
theorem handChain_sole {s : State} {i : Fin 16} {c : Collecting} (hc : c.ordinal = s.table.nextExpected)
    (h : ∀ j : Fin 16, j ≠ i → s.table.slots[j] = .free) (t : Trigger) : handChain (entryDecided i c t s) =
      takeAxle (decideAxle s.decisionSettings c t) { entryDecided i c t s with
        table := { s.table with slots := Vector.replicate 16 .free
                                latestSpeed := some (decideAxle s.decisionSettings c t).speed
                                nextExpected := s.table.nextExpected + 1
                                handedCount := min (s.table.handedCount + 1) 65535 } } := by
  have hfree : ∀ j : Fin 16, j ≠ i → (entryDecided i c t s).table.slots[j] = .free :=
    fun j hj => (slot_set_other _ _ hj).trans (h j hj)
  rw [handChain_only (s := entryDecided i c t s) (slot_set_same _ i _) hc hfree, handEntry_eq, slots_freed_only hfree]
  rfl

/-- Settles O44: the decision at the expiry, then the entry that waits and the one handed over at once. -/
theorem deadlineDecides : Obligations.DeadlineDecides := by
  intro s i c e hs hi a roster
  refine ⟨rfl, ownSlip_absent, fun q => ownSlip_present, exec_deadlineExpiry_early hs hi,
    exec_deadlineExpiry_due hs hi, fun h hown ⟨j, c', e', hj, hne, ho⟩ => ?_, fun h hown hc hfree => ?_⟩
  · rw [exec_deadlineExpiry_due hs hi h, decideEntry_noSlip hown, handChain_waits hi hj hne ho]
    rfl
  · rw [exec_deadlineExpiry_due hs hi h, decideEntry_noSlip hown, handChain_sole hc hfree]
    rfl

end Sys2Proof.Machine
end

section
/-! The Roster's form and the own standing: what keeps both, and what a decision and the blocks beside it do to them. -/

namespace Sys2Proof.Machine

/-! ### Roster entries -/

/-- What `RosterInv` says of an entry at any position (R78). -/
structure EntryWf (e : RosterEntry) : Prop where
  misses : e.misses ≤ 3
  slips : e.slips ≤ 3
  unknown : e.state = .unknown → e = emptyRosterEntry

theorem RosterInv.entry {s : State} (h : RosterInv s) (p : Pos) : EntryWf s.roster[p] :=
  ⟨(h.counts p).1, (h.counts p).2, h.unknown p⟩

theorem RosterInv.of_entries {s : State} (h : ∀ p : Pos, EntryWf s.roster[p])
    (ha : ∀ p : Pos, p = s.own ∨ s.conf.straps.count ≤ p.val → s.roster[p] = emptyRosterEntry) : RosterInv s :=
  ⟨fun p => ⟨(h p).misses, (h p).slips⟩, fun p => (h p).unknown, ha⟩

/-- A change of an entry that leaves an empty one empty and keeps the form of every other. -/
structure EntryChange (f : RosterEntry → RosterEntry) : Prop where
  empty : f emptyRosterEntry = emptyRosterEntry
  wf : ∀ e, EntryWf e → EntryWf (f e)

theorem EntryChange.id : EntryChange fun e => e := ⟨rfl, fun _ h => h⟩

theorem EntryChange.comp {f g : RosterEntry → RosterEntry} (hg : EntryChange g) (hf : EntryChange f) :
    EntryChange fun e => g (f e) := ⟨by rw [hf.empty, hg.empty], fun e h => hg.wf _ (hf.wf e h)⟩

/-- An entry that is known keeps its form with counts in range. -/
theorem EntryWf.of_known {e : RosterEntry} (hm : e.misses ≤ 3) (hs : e.slips ≤ 3) (h : e.state ≠ .unknown) :
    EntryWf e := ⟨hm, hs, fun n => absurd n h⟩

/-- An UNKNOWN entry is the empty one, so a change need only be looked at on the others. -/
theorem EntryChange.of_known {f : RosterEntry → RosterEntry} (h0 : f emptyRosterEntry = emptyRosterEntry)
    (h : ∀ e, EntryWf e → e.state ≠ .unknown → EntryWf (f e)) : EntryChange f := by
  refine ⟨h0, fun e he => ?_⟩
  by_cases hu : e.state = .unknown
  · have hempty := he.unknown hu
    rw [hempty, h0, ← hempty]
    exact he
  · exact h e he hu

/-- The reports of R82 change an entry within its form. -/
theorem reportPresence_change (b : Bool) : EntryChange (reportPresence b) := by
  cases b with
  | true => exact .of_known rfl fun e he hu => .of_known (Nat.zero_le _) he.slips hu
  | false =>
    refine .of_known rfl fun e he hu => ?_
    have hs := he.slips
    rw [reportPresence, if_neg Bool.false_ne_true]
    split
    · split
      · exact .of_known (by dsimp only; omega) hs hu
      · exact .of_known le_rfl hs nofun
    · exact .of_known le_rfl hs hu
    · exact .of_known (Nat.min_le_right _ _) hs hu
    · exact he

/-- The reports of R84 change an entry within its form. -/
theorem reportSlip_change (b : Bool) : EntryChange (reportSlip b) := by
  refine .of_known (by cases b <;> rfl) fun e he hu => ?_
  have hm := he.misses
  cases b with
  | false =>
    rw [reportSlip_kept e hu]
    exact .of_known hm (Nat.zero_le _) hu
  | true =>
    have hslip : ∀ k ≤ 3, EntryWf { e with slips := k } := fun k hk => .of_known hm hk hu
    have hfall : EntryWf { e with state := .desync, slips := 3 } := .of_known hm le_rfl nofun
    unfold reportSlip
    split
    · exact he
    · split
      · exact hslip _ (by omega)
      · exact hfall
    · split
      · exact hslip _ (by omega)
      · exact hfall
    · exact hslip 3 le_rfl
    all_goals exact hslip 0 (Nat.zero_le 3)

/-- What a decision tells the Roster of one position changes its entry within its form (R82, R84, R111). -/
theorem reportPeer_change (own : Pos) (c : Collecting) (p : Pos) : EntryChange (reportPeer own c p) := by
  have hpresence : EntryChange fun e => if c.expected[p] then reportPresence (c.contribs[p]).isSome e else e := by
    split
    · exact reportPresence_change _
    · exact .id
  unfold reportPeer
  split
  · exact .id
  · generalize (c.contribs[p]).bind _ = slip
    cases slip with
    | none => exact hpresence
    | some b => exact (reportSlip_change b).comp hpresence

/-- The release at a close changes an entry within its form (R85). -/
theorem releaseEntry_change : EntryChange releaseEntry := by
  refine .of_known rfl fun e he hu => ?_
  rw [releaseEntry_eq]
  split
  · exact .of_known (Nat.zero_le _) (Nat.zero_le _) nofun
  · exact .of_known he.misses (Nat.zero_le _) hu

/-- Changes of that kind at every position keep the Roster's form. -/
theorem RosterInv.changed {s t : State} {f : Pos → RosterEntry → RosterEntry} (h : RosterInv s)
    (hstraps : t.conf.straps = s.conf.straps) (hr : ∀ p : Pos, t.roster[p] = f p s.roster[p])
    (hf : ∀ p, EntryChange (f p)) : RosterInv t := by
  refine .of_entries (fun p => ?_) fun p hp => ?_
  · rw [hr]
    exact (hf p).wf _ (h.entry p)
  · rw [State.own, hstraps] at hp
    rw [hr, h.absent p hp, (hf p).empty]

/-- The form reads the Roster and the straps alone. -/
theorem RosterInv.same {s t : State} (h : RosterInv s) (hr : t.roster = s.roster)
    (hstraps : t.conf.straps = s.conf.straps) : RosterInv t :=
  h.changed (f := fun _ e => e) hstraps (fun p => by rw [hr]) fun _ => .id

/-- The Roster of power-on has its form under any straps (R78, R86). -/
theorem rosterInv_of_reset {s : State} (h : s.roster = State.reset.roster) : RosterInv s := by
  have hr : ∀ p : Pos, s.roster[p] = emptyRosterEntry := fun p => by rw [h, reset_roster]
  exact .of_entries (fun p => hr p ▸ ⟨Nat.zero_le _, Nat.zero_le _, fun _ => rfl⟩) fun p _ => hr p

/-! ### Roster and own standing together -/

/-- The own standing stays, or falls from CONTRIBUTING to DESYNC (R112). -/
def StandingFalls (a b : Standing) : Prop := b = a ∨ (a = .contributing ∧ b = .desync)

theorem StandingFalls.trans {a b c : Standing} (h : StandingFalls a b) (g : StandingFalls b c) : StandingFalls a c := by
  rcases h with rfl | ⟨ha, hb⟩
  · exact g
  · rcases g with rfl | ⟨hb', -⟩
    · exact .inr ⟨ha, hb⟩
    · rw [hb] at hb'
      cases hb'

/-- `t` keeps the Roster's form of `s`, and, where both hold a train, at most the fall of the own standing lies between
them. -/
structure PeersAfter (s t : State) : Prop where
  roster : RosterInv s → RosterInv t
  standing : s.train.state ≠ .noTrain → t.train.state ≠ .noTrain → StandingFalls s.train.standing t.train.standing

/-- The same where moreover a held train stays held and the straps stay. Such changes can follow one another. -/
structure PeersFollow (s t : State) : Prop extends PeersAfter s t where
  held : s.train.state ≠ .noTrain → t.train.state ≠ .noTrain
  straps : t.conf.straps = s.conf.straps

/-- A change that keeps a held train held, then any other. -/
theorem PeersFollow.after {s t u : State} (h : PeersFollow s t) (g : PeersAfter t u) : PeersAfter s u where
  roster hs := g.roster (h.roster hs)
  standing hs hu := (h.standing hs (h.held hs)).trans (g.standing (h.held hs) hu)

theorem PeersFollow.trans {s t u : State} (h : PeersFollow s t) (g : PeersFollow t u) : PeersFollow s u where
  toPeersAfter := h.after g.toPeersAfter
  held hs := g.held (h.held hs)
  straps := g.straps.trans h.straps

theorem PeersFollow.of_same {s t : State} (hr : t.roster = s.roster) (hstraps : t.conf.straps = s.conf.straps)
    (ht : t.train.state = s.train.state) (hst : t.train.standing = s.train.standing) : PeersFollow s t where
  roster h := h.same hr hstraps
  standing _ _ := .inl hst
  held hs := ht ▸ hs
  straps := hstraps

theorem PeersFollow.refl (s : State) : PeersFollow s s := .of_same rfl rfl rfl rfl

/-- A command that leaves no train need only keep the Roster's form. -/
theorem PeersAfter.of_noTrain {s t : State} (h : t.train.state = .noTrain) (hr : RosterInv s → RosterInv t) :
    PeersAfter s t := ⟨hr, fun _ hn => absurd h hn⟩

theorem AssemblyFrame.peers {s t : State} (h : AssemblyFrame s t) : PeersFollow s t := by
  obtain ⟨_, _, _, _, _, rfl⟩ := h
  exact .of_same rfl rfl rfl rfl

theorem QueueFrame.peers {s t : State} (h : QueueFrame s t) : PeersFollow s t := h.assembly.peers

theorem link_peers (s : State) (l : LinkControl) : PeersFollow s { s with link := l } := (link_frame s l).peers

theorem table_peers (s : State) (tb : ConsensusTable) : PeersFollow s { s with table := tb } := .of_same rfl rfl rfl rfl

/-! ### Consensus Table -/

theorem handAxle_peers (a : ConsensusAxle) (s : State) : PeersFollow s (handAxle a s) :=
  (table_peers s _).trans (takeAxle_frame a _).peers

theorem handEntry_peers (i : Fin 16) (a : ConsensusAxle) (s : State) : PeersFollow s (handEntry i a s) :=
  (table_peers s _).trans (handAxle_peers a _)

theorem handStep_peers {s t : State} (h : handStep s = some t) : PeersFollow s t := by
  unfold handStep at h
  split at h
  · split at h
    · cases h
      exact handEntry_peers _ _ s
    · cases h
    · cases h
  · split at h
    · cases h
      exact handAxle_peers _ s
    · cases h

theorem handRun_peers (n : Nat) (s : State) : PeersFollow s (handRun n s) := by
  induction n generalizing s with
  | zero => exact .refl s
  | succ n ih =>
    unfold handRun
    split
    · exact .refl s
    · exact (handStep_peers ‹_›).trans (ih _)

theorem handChain_peers (s : State) : PeersFollow s (handChain s) := handRun_peers _ s

/-- An own slip result leaves the Roster; the third slip in a row takes the standing from CONTRIBUTING to DESYNC
(R112). -/
theorem takeOwnSlip_peers (r : Option Bool) (s : State) : PeersFollow s (takeOwnSlip r s) := by
  unfold takeOwnSlip
  split
  · exact .refl s
  · split
    · rename_i hc
      split
      · split
        · exact .of_same rfl rfl rfl rfl
        · have hfall : PeersFollow s { s with train := { s.train with slips := 3, standing := .desync } } :=
            { roster := fun h => h.same rfl rfl
              standing := fun _ _ => .inr ⟨eq_of_beq hc, rfl⟩
              held := fun h => h
              straps := rfl }
          obtain ⟨l, hl⟩ := cancelAxles_frame { s with train := { s.train with slips := 3, standing := .desync } }
          rw [hl]
          exact hfall.trans (link_peers _ l)
      · exact .of_same rfl rfl rfl rfl
    · exact .refl s

theorem entryDecided_roster (i : Fin 16) (c : Collecting) (t : Trigger) (s : State) (p : Pos) :
    (entryDecided i c t s).roster[p] = reportPeer s.own c p s.roster[p] := Vector.getElem_ofFn p.isLt

theorem decideEntry_peers (i : Fin 16) (c : Collecting) (t : Trigger) (s : State) :
    PeersFollow s (decideEntry i c t s) := by
  have hreports : PeersFollow s (entryDecided i c t s) :=
    { roster := fun h => h.changed rfl (entryDecided_roster i c t s) (reportPeer_change s.own c)
      standing := fun _ _ => .inl rfl
      held := fun h => h
      straps := rfl }
  exact hreports.trans (takeOwnSlip_peers _ _)

theorem forcedStep_peers (s : State) : PeersFollow s (forcedStep s) := by
  unfold forcedStep
  split
  · exact handAxle_peers _ s
  · split
    · exact (decideEntry_peers _ _ _ s).trans (handEntry_peers _ _ _)
    · exact handEntry_peers _ _ s
    · exact .refl s

theorem forceAdvance_peers (n a : Nat) (s : State) : PeersFollow s (forceAdvance n a s) := by
  induction n generalizing s with
  | zero => exact .refl s
  | succ n ih =>
    unfold forceAdvance
    split
    · exact (forcedStep_peers s).trans ((handChain_peers _).trans (ih _))
    · exact .refl s

theorem handUpTo_peers (n last : Nat) (s : State) : PeersFollow s (handUpTo n last s) := by
  induction n generalizing s with
  | zero => exact .refl s
  | succ n ih =>
    unfold handUpTo
    split
    · exact (forcedStep_peers s).trans (ih _)
    · exact .refl s

theorem storeAt_peers (i : Fin 16) (c : Collecting) (p : Pos) (q : Partial) (s : State) :
    PeersFollow s (storeAt i c p q s) := by
  unfold storeAt
  dsimp only
  split
  · exact (decideEntry_peers _ _ _ s).trans (handChain_peers _)
  · exact table_peers s _

theorem storeInWindow_peers (p : Pos) (q : Partial) (s : State) : PeersFollow s (storeInWindow p q s) := by
  unfold storeInWindow
  split
  · split
    · exact storeAt_peers _ _ _ _ s
    · exact .refl s
    · exact .refl s
  · split
    · exact .refl s
    · exact (table_peers s _).trans (storeAt_peers _ _ _ _ _)

theorem takeContribution_peers (p : Pos) (q : Partial) (s : State) : PeersFollow s (takeContribution p q s) := by
  unfold takeContribution
  split
  · split
    · exact .refl s
    · exact (forceAdvance_peers _ _ s).trans (storeInWindow_peers _ _ _)
  · exact .refl s

theorem deadlineExpiry_peers (i : Fin 16) (s : State) : PeersFollow s (deadlineExpiry i s) := by
  unfold deadlineExpiry
  split
  · split
    · exact (decideEntry_peers _ _ _ s).trans (handChain_peers _)
    · exact .refl s
  · exact .refl s
  · exact .refl s

/-! ### Trains -/

/-- A train that opens takes its standing from its cause, and no train was held before (R87, R156). -/
theorem openTrain_peers {s : State} (h : s.train.state = .noTrain) (d : Direction) (st : Standing) (n : Nat) :
    PeersFollow s (openTrain d st n s) := by
  rw [openTrain_eq]
  exact
    { roster := fun hr => hr.same rfl rfl
      standing := fun hs => absurd h hs
      held := fun hs => absurd h hs
      straps := rfl }

theorem restartClose_peers (s : State) : PeersFollow s (restartClose s) := .of_same rfl rfl rfl rfl

/-- The frame references of the Train Sequencer are no part of what `PeersFollow` speaks of. -/
theorem references_peers (s : State) (o c : Option Nat) :
    PeersFollow s { s with train := { s.train with openFrame := o, closeFrame := c } } := .of_same rfl rfl rfl rfl

theorem trainTakesDetector_peers (d : Direction) (s : State) : PeersFollow s (trainTakesDetector d s) := by
  unfold trainTakesDetector
  split
  · split
    · exact (openTrain_peers ‹_› d s.openStanding 1).trans
        ((offer_frame .train _ _ _).peers.trans (references_peers _ _ _))
    · exact restartClose_peers s
    · exact restartClose_peers s
  · exact .refl s

theorem abandonBegun_peers (s : State) : PeersFollow s (abandonBegun s) := by
  obtain ⟨_, h⟩ := abandonBegun_eq s
  rw [h]
  exact .of_same rfl rfl rfl rfl

/-- An abandonment keeps the train held, in ABANDONED (R164). -/
theorem enterAbandoned_peers (r : Nat) (s : State) : PeersFollow s (enterAbandoned r s) := by
  have hcut : PeersFollow s (closeVehicle { reversed := true } (freeAll (abandonCut r s))) :=
    (abandonBegun_peers s).trans <| (handUpTo_peers _ _ _).trans <|
      (table_peers _ _).trans (closeVehicle_frame _ _).peers
  rw [enterAbandoned_eq]
  exact hcut.trans
    { roster := fun h => h.same rfl rfl
      standing := fun _ _ => .inl rfl
      held := fun _ => nofun
      straps := rfl }

theorem abandonAnnounced_peers (r : Nat) (s : State) : PeersFollow s (abandonAnnounced r s) :=
  (offer_frame _ _ _ s).peers.trans (enterAbandoned_peers r _)

theorem closeBegun_peers (s : State) : PeersFollow s (closeBegun s) := by
  obtain ⟨_, h⟩ := closeBegun_eq s
  rw [h]
  exact .of_same rfl rfl rfl rfl

theorem closeFlush_peers (n : Nat) (s : State) : PeersFollow s (closeFlush n s) := by
  unfold closeFlush
  split
  · exact (handUpTo_peers _ _ s).trans (closeVehicle_frame _ _).peers
  · exact .refl s
  · exact .refl s

/-- A close leaves no train, and releases every entry of the Roster (R85, R161). -/
theorem closedAs_peers (w : State) : PeersAfter w (closedAs w) :=
  .of_noTrain rfl fun h => h.changed (f := fun _ => releaseEntry) rfl
    (fun p => by simp [closedAs]) fun _ => releaseEntry_change

theorem closeTimerExpiry_peers (s : State) : PeersAfter s (closeTimerExpiry s) := by
  unfold closeTimerExpiry
  split
  · rw [closeTrain_eq]
    exact ((closeBegun_peers s).trans (closeFlush_peers _ _)).after (closedAs_peers _)
  · exact (PeersFollow.refl s).toPeersAfter

theorem cancelFrame_peers (id : Nat) (s : State) : PeersFollow s (cancelFrame id s) := by
  obtain ⟨l, h⟩ := cancelFrame_frame id s
  exact h ▸ link_peers s l

theorem takeTrainOpen_peers (f : TrainFrame) (s : State) : PeersFollow s (takeTrainOpen f s) := by
  unfold takeTrainOpen
  split
  · split
    · exact openTrain_peers ‹_› _ _ _
    · split
      · unfold cancelOpen
        split
        · exact .refl s
        · exact (cancelFrame_peers _ s).trans (references_peers _ _ _)
      · exact abandonAnnounced_peers _ s
    · exact .refl s
  · exact .refl s

theorem takeTrainReversal_peers (f : TrainFrame) (s : State) : PeersFollow s (takeTrainReversal f s) := by
  unfold takeTrainReversal
  split
  · exact enterAbandoned_peers _ s
  · exact .refl s

theorem keepClose_peers (f : TrainFrame) (s : State) : PeersFollow s (keepClose f s) := by
  unfold keepClose
  split
  · exact .of_same rfl rfl rfl rfl
  · exact .refl s

theorem answerClose_peers (f : TrainFrame) (s : State) : PeersFollow s (answerClose f s) := by
  unfold answerClose
  split
  · exact .refl s
  · split
    · exact (cancelFrame_peers _ s).trans (references_peers _ _ _)
    · exact .refl s

theorem takeTrainClose_peers (f : TrainFrame) (s : State) : PeersFollow s (takeTrainClose f s) := by
  unfold takeTrainClose
  split
  · split
    · exact answerClose_peers f s
    · exact keepClose_peers f s
    · exact keepClose_peers f s
  · exact .refl s

theorem trainTakesAxle_peers (q : Partial) (s : State) : PeersFollow s (trainTakesAxle q s) := by
  unfold trainTakesAxle
  split
  · split
    · split
      · exact openTrain_peers ‹_› _ _ _
      · exact openTrain_peers ‹_› _ _ _
    · exact restartClose_peers s
    · exact restartClose_peers s
  · exact .refl s

/-! ### Detector events -/

theorem handOn_peers (q : Partial) (s : State) : PeersFollow s (handOn q s) := by
  unfold handOn
  split
  · exact (offer_frame _ _ _ s).peers.trans (takeContribution_peers _ _ _)
  · exact .refl s

/-- The Wheel Timer and the Passage Integrator are no part of what `PeersFollow` speaks of. -/
theorem passage_peers (s : State) (w : WheelTimer) (p : PassageIntegrator) :
    PeersFollow s { s with wheel := w, pass := p } := .of_same rfl rfl rfl rfl

theorem endOpenDwell_peers (s : State) : PeersFollow s (endOpenDwell s) := by
  unfold endOpenDwell
  split
  · exact (passage_peers s _ _).trans (handOn_peers _ _)
  · exact .refl s

theorem takeExit_peers (s : State) : PeersFollow s (takeExit s) := by
  unfold takeExit
  split
  · exact (passage_peers s _ _).trans (handOn_peers _ _)
  · exact .refl s

theorem takeEntry_peers (s : State) : PeersFollow s (takeEntry s) := by
  unfold takeEntry
  split
  · exact abandonAnnounced_peers _ s
  · exact (endOpenDwell_peers s).trans ((passage_peers _ _ _).trans (handChain_peers _))

theorem wheelTakes_peers (d : Detector) (dir : Direction) (s : State) : PeersFollow s (wheelTakes d dir s) := by
  unfold wheelTakes
  split
  · split
    · split
      · exact takeEntry_peers s
      · exact takeExit_peers s
    · exact abandonAnnounced_peers _ s
  · exact .refl s

theorem detectorEvent_peers (d : Detector) (dir : Direction) (s : State) : PeersFollow s (detectorEvent d dir s) := by
  have hreported : PeersFollow s (reported d s) := .of_same rfl rfl rfl rfl
  unfold detectorEvent
  split
  · exact hreported.trans ((trainTakesDetector_peers dir _).trans (wheelTakes_peers d dir _))
  · exact .refl s

end Sys2Proof.Machine
end

section
/-! Commands, resets and received frames beside the Roster; every step keeps its form, and a held train's standing only
falls. -/

namespace Sys2Proof.Machine

/-! ### Commands that leave the Roster -/

theorem QueueFrame.roster {s t : State} (h : QueueFrame s t) : t.roster = s.roster := by
  obtain ⟨_, _, _, _, rfl⟩ := h
  rfl

@[simp] theorem notify_roster (f : QFrame) (n : Notice) (s : State) : (notify f n s).roster = s.roster :=
  (notify_frame f n s).roster

@[simp] theorem offerPresence_roster (s : State) : (offerPresence s).roster = s.roster := (offerPresence_frame s).roster

@[simp] theorem setFault_roster (f : StationFault) (s : State) : (setFault f s).roster = s.roster :=
  (setFault_frame f s).roster

@[simp] theorem wakeRate_roster (s : State) : (wakeRate s).roster = s.roster := by
  unfold wakeRate
  split <;> rfl

@[simp] theorem takeWake_roster (w : WakeSource) (s : State) : (takeWake w s).roster = s.roster := by
  unfold takeWake
  split <;> simp

theorem quietTimerExpiry_roster (s : State) : (quietTimerExpiry s).roster = s.roster := by
  unfold quietTimerExpiry quietExpired
  split
  · split
    · simp
    · split <;> rfl
  · rfl

theorem dormantEntryComplete_roster (s : State) : (dormantEntryComplete s).roster = s.roster := by
  unfold dormantEntryComplete
  split <;> rfl

theorem refreshTimerExpiry_roster (s : State) : (refreshTimerExpiry s).roster = s.roster := by
  unfold refreshTimerExpiry
  split <;> simp

theorem settlingComplete_roster (s : State) : (settlingComplete s).roster = s.roster := by
  unfold settlingComplete
  split <;> rfl

theorem debounceHoldEnd_roster (d : Detector) (s : State) : (debounceHoldEnd d s).roster = s.roster := by
  unfold debounceHoldEnd
  split <;> rfl

@[simp] theorem judgeIdle_roster (p : Pair) (s : State) : (judgeIdle p s).roster = s.roster := by
  unfold judgeIdle
  split <;> simp

theorem capturePair_roster (p : Pair) (s : State) : (capturePair p s).roster = s.roster := by
  unfold capturePair
  split
  · rfl
  · dsimp only
    split
    · rfl
    · split <;> simp

theorem trackPair_roster (k : Calibrate) (p : Pair) (s : State) : (trackPair k p s).roster = s.roster := by
  unfold trackPair
  dsimp only
  split <;> simp

@[simp] theorem zeroTake_roster (p : Pair) (s : State) : (zeroTake p s).roster = s.roster := by
  unfold zeroTake
  split
  · rfl
  · split
    · split
      · exact capturePair_roster p s
      · exact trackPair_roster _ p s
    · rfl

theorem producePair_roster (l r : Sample) (s : State) : (producePair l r s).roster = s.roster := by
  unfold producePair passTake
  simp

theorem samplePair_roster (l r : Sample) (s : State) : (samplePair l r s).roster = s.roster := by
  unfold samplePair
  split
  · exact producePair_roster l r s
  · rfl

theorem zeroCaptureComplete_roster (l r : Sample) (s : State) : (zeroCaptureComplete l r s).roster = s.roster := by
  unfold zeroCaptureComplete
  split
  · exact producePair_roster l r s
  · rfl

theorem attemptStart_roster (n : Nat) (s : State) : (attemptStart n s).roster = s.roster := by
  unfold attemptStart
  split
  · dsimp only
    split
    · rfl
    · split <;> rfl
  · rfl

theorem otherPartyStartMark_roster (n : Nat) (s : State) : (otherPartyStartMark n s).roster = s.roster := by
  unfold otherPartyStartMark
  split
  · split <;> rfl
  · rfl

theorem labelSentUnbeaten_roster (s : State) : (labelSentUnbeaten s).roster = s.roster := by
  unfold labelSentUnbeaten
  split <;> rfl

theorem arbitrationLost_roster (s : State) : (arbitrationLost s).roster = s.roster := by
  unfold arbitrationLost
  split <;> rfl

theorem failAttempt_roster (f : QFrame) (s : State) : (failAttempt f s).roster = s.roster := by
  unfold failAttempt discardFrame
  split <;> simp

theorem senderError_roster (n : Nat) (s : State) : (senderError n s).roster = s.roster := by
  unfold senderError
  split
  · dsimp only
    split
    · rfl
    · split
      · rfl
      · exact failAttempt_roster _ _
  · rfl

theorem attemptComplete_roster (s : State) : (attemptComplete s).roster = s.roster := by
  unfold attemptComplete sentFrame
  split
  · dsimp only
    split <;> simp
  · rfl

theorem frameBroken_roster (c : BreakCause) (n : Nat) (s : State) : (frameBroken c n s).roster = s.roster := by
  unfold frameBroken
  split <;> rfl

/-- A command that leaves what the Consensus Table's invariant reads, the Roster and the straps (R87). -/
theorem SameTable.peers {s t : State} (h : SameTable s t) (hr : t.roster = s.roster)
    (hstraps : t.conf.straps = s.conf.straps) : PeersFollow s t := .of_same hr hstraps h.state h.standing

/-! ### Settings -/

theorem PeersFollow.presence {s t : State} (h : PeersFollow s t) : PeersFollow s (offerPresence t) :=
  h.trans (offerPresence_frame t).peers

theorem takeCalibrate_peers (f : RxFrame) (s : State) : PeersFollow s (takeCalibrate f s) := by
  unfold takeCalibrate offerCalibrate
  split
  · split
    · exact .presence (.of_same rfl rfl rfl rfl)
    · exact .presence (.of_same rfl rfl rfl rfl)
  · exact .refl s

theorem takeSite_peers (f : RxFrame) (s : State) : PeersFollow s (takeSite f s) := by
  unfold takeSite
  split
  · split
    · exact .presence (.of_same rfl rfl rfl rfl)
    · rw [acceptSite, resizeQuiet_eq]
      exact .presence (.of_same rfl rfl rfl rfl)
  · exact .refl s

/-! ### Resets -/

theorem powerOn_peers (st : Straps) (s : State) : PeersAfter s (powerOn st s) := by
  unfold powerOn
  dsimp only
  split
  · exact .of_noTrain rfl fun _ => rosterInv_of_reset rfl
  · obtain ⟨_, _, _, _, h⟩ := offerPresence_frame (powerOnBlocks st s)
    rw [h]
    exact .of_noTrain rfl fun _ => rosterInv_of_reset rfl

/-- A RESTART leaves no train and the Roster of power-on (R86, R174). -/
theorem takeRestart_peers (keep : Bool) (s : State) : PeersAfter s (takeRestart keep s) := by
  rw [takeRestart_eq]
  exact .of_noTrain ((offerPresence_frame _).calm.state.trans rfl) fun _ =>
    rosterInv_of_reset ((offerPresence_roster _).trans rfl)

theorem takeRestartFrame_peers (f : RxFrame) (s : State) : PeersAfter s (takeRestartFrame f s) := by
  unfold takeRestartFrame
  split
  · exact takeRestart_peers _ s
  · exact (PeersFollow.refl s).toPeersAfter

/-! ### Received frames -/

/-- The frame carries the position of a peer: below N, and not the own one (R70, R71). -/
def State.FromPeer (s : State) (f : RxFrame) : Prop := f.position ≠ s.own ∧ f.position.val < s.conf.straps.count

theorem PeersFollow.fromPeer {s t : State} (h : PeersFollow s t) {f : RxFrame} (hp : s.FromPeer f) : t.FromPeer f := by
  unfold State.FromPeer State.own at *
  rwa [h.straps]

/-- A station frame that passes the receive checks carries the position of a peer (R70, R71). -/
theorem fromPeer_of_checks {k : Kind} {f : RxFrame} {s : State} (h : passesChecks k f s = true)
    (hc : ¬ (stationKind k && decide (f.position = s.own)) = true) (hk : 3 ≤ kindValue k) : s.FromPeer f := by
  obtain ⟨-, -, hpos⟩ := (passesChecks_iff k f s).1 h
  exact ⟨fun ho => hc (by simp [(stationKind_iff k).2 hk, ho]), hpos hk⟩

/-- A frame of a peer makes its entry known, with no misses (R79, R80). -/
theorem rosterTake_peers (k : Kind) {f : RxFrame} {s : State} (hp : s.FromPeer f) :
    PeersFollow s (rosterTake k f s) := by
  have hother : ∀ p : Pos, p ≠ f.position → (rosterTake k f s).roster[p] = s.roster[p] := fun p hne => by
    rw [rosterTake_eq]
    exact vector_set_other _ _ hne
  obtain ⟨hown, hlow⟩ := hp
  refine { roster := fun h => .of_entries (fun p => ?_) fun p ha => ?_, standing := fun _ _ => .inl rfl,
           held := fun hs => hs, straps := rfl }
  · by_cases hpos : p = f.position
    · subst hpos
      rw [rosterTake_eq]
      simp only [Fin.getElem_fin, Vector.getElem_set_self]
      refine .of_known (Nat.zero_le _) (h.entry _).slips ?_
      dsimp only
      split <;> exact nofun
    · rw [hother p hpos]
      exact h.entry p
  · have hne : p ≠ f.position := by
      rintro rfl
      rcases ha with ha | ha
      · exact hown ha
      · exact absurd hlow (Nat.not_lt.2 ha)
    rw [hother p hne]
    exact h.absent p ha

/-- The receive checks set a fault or deliver the frame, a station frame only from a peer (R70, R71, R72). -/
theorem checkFrame_peers (k : Kind) (f : RxFrame) {deliver : State → State}
    (hd : ∀ u, (3 ≤ kindValue k → u.FromPeer f) → PeersAfter u (deliver u)) (s : State) :
    PeersAfter s (checkFrame k f deliver s) := by
  unfold checkFrame
  split
  · rename_i hpass
    split
    · exact ((passage_peers s _ _).trans (setFault_frame _ _).peers).toPeersAfter
    · rename_i hclash
      have hwake : PeersFollow s { s with rc := { s.rc with linkWake := true } } := .of_same rfl rfl rfl rfl
      exact hwake.after (hd _ fun hk => hwake.fromPeer (fromPeer_of_checks hpass hclash hk))
  · exact (PeersFollow.refl s).toPeersAfter

/-- A received frame does what its receive checks do (R68). -/
theorem receiveFrame_peers (k : Kind) (f : RxFrame) {deliver : State → State}
    (hd : ∀ u, (3 ≤ kindValue k → u.FromPeer f) → PeersAfter u (deliver u)) (s : State) :
    PeersAfter s (receiveFrame k f deliver s) := by
  have hmark : PeersFollow s (otherPartyStartMark 0 s) :=
    (otherPartyStartMark_sameTable 0 s).peers (otherPartyStartMark_roster 0 s)
      (by rw [(otherPartyStartMark_calm 0 s).conf])
  have hend := hmark.trans (link_peers (otherPartyStartMark 0 s)
    { (otherPartyStartMark 0 s).link with state := .idle, recessive := 0 })
  unfold receiveFrame
  dsimp only
  split
  · split
    · exact hend.after (checkFrame_peers k f hd _)
    · exact hend.toPeersAfter
  · exact hmark.toPeersAfter

/-- A station frame of a peer that the other blocks follow, in either order (R72, R83). -/
theorem deliverStation_peers (k : Kind) (f : RxFrame) {others : State → State} (ho : ∀ u, PeersFollow u (others u))
    {s : State} (hp : s.FromPeer f) : PeersFollow s (deliverStation k f others s) := by
  unfold deliverStation
  split
  · exact (ho s).trans (rosterTake_peers k ((ho s).fromPeer hp))
  · exact (rosterTake_peers k hp).trans (ho _)

/-- A row of a station kind that the other blocks follow (R72). -/
theorem stationRow_peers {k : Kind} (hk : 3 ≤ kindValue k) (f : RxFrame) {others : State → State}
    (ho : ∀ u, PeersFollow u (others u)) (s : State) :
    PeersAfter s (receiveFrame k f (deliverStation k f others) s) :=
  receiveFrame_peers k f (fun _ hp => (deliverStation_peers k f ho (hp hk)).toPeersAfter) s

/-- A row that the Roster alone takes (R72). -/
theorem rosterRow_peers {k : Kind} (hk : 3 ≤ kindValue k) (f : RxFrame) (s : State) :
    PeersAfter s (receiveFrame k f (rosterTake k f) s) :=
  receiveFrame_peers k f (fun _ hp => (rosterTake_peers k (hp hk)).toPeersAfter) s

theorem takeTrainFrame_peers (n : Nat) (f : RxFrame) {take : TrainFrame → State → State}
    (ht : ∀ g u, PeersFollow u (take g u)) (s : State) : PeersFollow s (takeTrainFrame n f take s) := by
  unfold takeTrainFrame
  dsimp only
  split
  · exact ht _ s
  · exact .refl s

theorem takeAxleFrame_peers (f : RxFrame) (s : State) : PeersFollow s (takeAxleFrame f s) :=
  (trainTakesAxle_peers _ s).trans (takeContribution_peers _ _ _)

theorem takeVehicleFrame_peers (f : RxFrame) (s : State) : PeersFollow s (takeVehicleFrame f s) := by
  unfold takeVehicleFrame
  split
  · exact (takePeerRecord_frame _ s).peers
  · exact .refl s

/-! ### Every command, every step -/

/-- A command that leaves what the Consensus Table's invariant reads, and the Roster. -/
theorem effect_quiet {c : Instr} (hc : ¬ isPowerOn c) {s : State} (h : SameTable s (effect c s))
    (hr : (effect c s).roster = s.roster) : PeersAfter s (effect c s) :=
  (h.peers hr (effect_cases c s hc).sameClock.2.2).toPeersAfter

theorem effect_peers (c : Instr) (s : State) : PeersAfter s (effect c s) := by
  by_cases hc : isPowerOn c
  · obtain ⟨pos, cnt, sec, rfl⟩ := hc
    exact powerOn_peers _ s
  cases c with
  | powerOnReset pos cnt sec => exact absurd ⟨pos, cnt, sec, rfl⟩ hc
  | samplePair l r => exact effect_quiet hc (samplePair_sameTable l r s) (samplePair_roster l r s)
  | zeroCaptureComplete l r =>
    exact effect_quiet hc (zeroCaptureComplete_sameTable l r s) (zeroCaptureComplete_roster l r s)
  | settlingComplete => exact effect_quiet hc (settlingComplete_sameTable s) (settlingComplete_roster s)
  | quietTimerExpiry => exact effect_quiet hc (quietTimerExpiry_sameTable s) (quietTimerExpiry_roster s)
  | dormantEntryComplete => exact effect_quiet hc (dormantEntryComplete_sameTable s) (dormantEntryComplete_roster s)
  | refreshTimerExpiry => exact effect_quiet hc (refreshTimerExpiry_sameTable s) (refreshTimerExpiry_roster s)
  | wakeEvent w => exact effect_quiet hc (takeWake_sameTable w s) (takeWake_roster w s)
  | detectorEvent d dir => exact (detectorEvent_peers d dir s).toPeersAfter
  | debounceHoldEnd d => exact effect_quiet hc (debounceHoldEnd_sameTable d s) (debounceHoldEnd_roster d s)
  | closeTimerExpiry => exact closeTimerExpiry_peers s
  | deadlineExpiry i => exact (deadlineExpiry_peers i s).toPeersAfter
  | attemptStart n => exact effect_quiet hc (attemptStart_sameTable n s) (attemptStart_roster n s)
  | arbitrationLost => exact effect_quiet hc (arbitrationLost_sameTable s) (arbitrationLost_roster s)
  | senderError n => exact effect_quiet hc (senderError_sameTable n s) (senderError_roster n s)
  | attemptComplete => exact effect_quiet hc (attemptComplete_sameTable s) (attemptComplete_roster s)
  | frameBroken b n => exact effect_quiet hc (frameBroken_sameTable b n s) (frameBroken_roster b n s)
  | restartFrame f => exact receiveFrame_peers _ f (fun u _ => takeRestartFrame_peers f u) s
  | calibrateFrame f => exact receiveFrame_peers _ f (fun u _ => (takeCalibrate_peers f u).toPeersAfter) s
  | siteFrame f => exact receiveFrame_peers _ f (fun u _ => (takeSite_peers f u).toPeersAfter) s
  | trainOpenFrame f => exact stationRow_peers (by decide) f (takeTrainFrame_peers _ f takeTrainOpen_peers) s
  | trainReversalFrame f => exact stationRow_peers (by decide) f (takeTrainFrame_peers _ f takeTrainReversal_peers) s
  | trainCloseFrame f => exact stationRow_peers (by decide) f (takeTrainFrame_peers _ f takeTrainClose_peers) s
  | axleFrame f => exact stationRow_peers (by decide) f (takeAxleFrame_peers f) s
  | vehicleFrame f => exact stationRow_peers (by decide) f (takeVehicleFrame_peers f) s
  | dissentFrame f => exact rosterRow_peers (by decide) f s
  | presenceFrame f => exact rosterRow_peers (by decide) f s
  | otherPartyStartMark n => exact effect_quiet hc (otherPartyStartMark_sameTable n s) (otherPartyStartMark_roster n s)
  | labelSentUnbeaten => exact effect_quiet hc (labelSentUnbeaten_sameTable s) (labelSentUnbeaten_roster s)

/-- Settles O11: frames of peers, reports and the release change entries within their form, resets empty the Roster. -/
theorem rosterInvKept : Obligations.RosterInvKept :=
  stepKeeps_of_effect (fun _ _ h => h.same rfl rfl) (fun _ h => h.same rfl rfl) fun c s => (effect_peers c s).roster

/-- Settles O5: only a third own slip writes the standing of a held train, and only from CONTRIBUTING. -/
theorem standingHolds : Obligations.StandingHolds := by
  intro c s t he hc hs ht
  rw [exec_inService c s hc] at he
  cases hf : s.strapFault
  · rw [inService_next _ s hf] at he
    cases he
    exact (effect_peers c s).standing hs ht
  · rw [inService_strapFault _ s hf] at he
    cases he
    exact .inl rfl

end Sys2Proof.Machine
end

section
/-! The fields of a decision beside its loads, and the settings it reads. -/

namespace Sys2Proof.Machine

/-! ### Least and greatest of a list -/

theorem maxOf_eq_iff {l : List Nat} (h : l ≠ []) (m : Nat) : maxOf l = m ↔ m ∈ l ∧ ∀ x ∈ l, x ≤ m := by
  cases l with
  | nil => exact absurd rfl h
  | cons x xs => rw [← List.max?_eq_some_iff, List.max?_cons', Option.some_inj, maxOf, List.foldl_cons, Nat.zero_max]

theorem minOf_eq_iff {l : List Nat} (h : l ≠ []) (m : Nat) : minOf l = m ↔ m ∈ l ∧ ∀ x ∈ l, m ≤ x := by
  cases l with
  | nil => exact absurd rfl h
  | cons x xs => rw [← List.min?_eq_some_iff, List.min?_cons', Option.some_inj, minOf]

/-- The spread exceeds a limit when two members lie further apart than the limit (R118). -/
theorem lt_spreadOf_iff (n : Nat) (kept : List Loads) :
    n < spreadOf kept ↔ ∃ a ∈ kept, ∃ b ∈ kept, n + a.axle < b.axle := by
  rcases eq_or_ne kept [] with rfl | hne
  · simp [spreadOf, maxOf, minOf]
  have hmap : kept.map Loads.axle ≠ [] := List.map_eq_nil_iff.not.2 hne
  obtain ⟨hmax, hle⟩ := (maxOf_eq_iff hmap _).1 rfl
  obtain ⟨hmin, hge⟩ := (minOf_eq_iff hmap _).1 rfl
  unfold spreadOf
  constructor
  · intro hlt
    obtain ⟨a, ha, hlow⟩ := List.mem_map.1 hmin
    obtain ⟨b, hb, hhigh⟩ := List.mem_map.1 hmax
    exact ⟨a, ha, b, hb, by omega⟩
  · rintro ⟨a, ha, b, hb, hlt⟩
    have hlow := hge _ (List.mem_map_of_mem ha)
    have hhigh := hle _ (List.mem_map_of_mem hb)
    omega

/-- SPREAD (R118): two kept loads more than the limit apart are two loads, so the count of R118 adds nothing. -/
theorem spreadFlag_iff (limit : Nat) (kept : List Loads) :
    spreadFlag limit kept = true ↔ ∃ a ∈ kept, ∃ b ∈ kept, 100 * limit + a.axle < b.axle := by
  rw [spreadFlag, Bool.and_eq_true, decide_eq_true_iff, decide_eq_true_iff, lt_spreadOf_iff]
  refine and_iff_right_of_imp ?_
  rintro ⟨a, ha, b, hb, hlt⟩
  have hne : a ≠ b := fun h => by
    subst h
    omega
  match kept, ha, hb with
  | [x], ha, hb => exact absurd ((List.mem_singleton.1 ha).trans (List.mem_singleton.1 hb).symm) hne
  | _ :: _ :: xs, _, _ => simp

/-! ### Means -/

theorem floorMean_eq_none {l : List Nat} : floorMean l = none ↔ l = [] := by
  cases l <;> simp [floorMean]

/-- The floor of the mean: the sum lies from it times the count up to below the next (R119). -/
theorem floorMean_bounds {l : List Nat} {v : Nat} (h : floorMean l = some v) :
    v * l.length ≤ l.sum ∧ l.sum < (v + 1) * l.length := by
  cases l with
  | nil => cases h
  | cons x xs =>
    obtain rfl : (x :: xs).sum / (x :: xs).length = v := Option.some.inj h
    have hpos : 0 < (x :: xs).length := Nat.succ_pos _
    exact ⟨Nat.div_mul_le_self _ _, (Nat.div_lt_iff_lt_mul hpos).1 (Nat.lt_succ_self _)⟩

/-! ### The contributions of an entry -/

/-- The present contributions are those the entry holds, each with its position (R108). -/
theorem mem_present {c : Collecting} {x : Contribution} : x ∈ c.present ↔ c.contribs[x.pos] = some x.part := by
  simp only [Collecting.present, List.mem_filterMap, List.mem_finRange, true_and, Option.map_eq_some_iff]
  constructor
  · rintro ⟨p, q, hq, rfl⟩
    exact hq
  · exact fun h => ⟨x.pos, x.part, h, rfl⟩

/-- MISSING (R122): an expected position has not contributed. -/
theorem awaitedList_ne_nil {c : Collecting} :
    c.awaitedList ≠ [] ↔ ∃ p : Pos, c.expected[p] = true ∧ c.contribs[p] = none := by
  simp [Collecting.awaitedList, Collecting.awaited, List.filter_eq_nil_iff]

theorem hasFlag_foldl (f : PartialFlag) (cs : List Contribution) (fs : FlagSet) :
    hasFlag (cs.foldl (fun fs x => fs ||| x.part.flags) fs) f =
      (hasFlag fs f || cs.any fun x => hasFlag x.part.flags f) := by
  induction cs generalizing fs with
  | nil => simp
  | cons x xs ih => rw [List.foldl_cons, ih, hasFlag_or, List.any_cons, Bool.or_assoc]

/-- The noted flags are those a present contribution carries (R121). -/
theorem hasFlag_notedFlags (f : PartialFlag) (cs : List Contribution) :
    hasFlag (notedFlags cs) f = true ↔ ∃ x ∈ cs, hasFlag x.part.flags f = true := by
  rw [notedFlags, hasFlag_foldl, hasFlag_zero, Bool.false_or, List.any_eq_true]

/-! ### The flag of the trigger -/

section Trigger
variable (f : ConsensusFlags) (t : Trigger)

@[simp] theorem withTrigger_missing : (f.withTrigger t).missing = f.missing := by cases t <;> rfl

@[simp] theorem withTrigger_slipped : (f.withTrigger t).slipped = f.slipped := by cases t <;> rfl

@[simp] theorem withTrigger_spread : (f.withTrigger t).spread = f.spread := by cases t <;> rfl

@[simp] theorem withTrigger_hole : (f.withTrigger t).hole = f.hole := by cases t <;> rfl

@[simp] theorem withTrigger_timedOut : (f.withTrigger t).timedOut = (f.timedOut || t == .deadline) := by
  cases t <;> simp [ConsensusFlags.withTrigger]

@[simp] theorem withTrigger_forced : (f.withTrigger t).forced = (f.forced || t == .forced) := by
  cases t <;> simp [ConsensusFlags.withTrigger]

end Trigger

/-! ### The flags and the settings of a decision -/

section Decision
variable (d : DecisionSettings) (c : Collecting) (t : Trigger)

theorem decideAxle_missing : (decideAxle d c t).flags.missing = true ↔
    ∃ p : Pos, c.expected[p] = true ∧ c.contribs[p] = none := by
  rw [← awaitedList_ne_nil]
  simp [decideAxle]

theorem decideAxle_slipped : (decideAxle d c t).flags.slipped = true ↔
    ∃ x ∈ c.present, slipped c.present x = true := by
  simp [decideAxle]

theorem decideAxle_spread : (decideAxle d c t).flags.spread = true ↔
    ∃ a ∈ keptLoads d.mask c.present, ∃ b ∈ keptLoads d.mask c.present, 100 * d.spread + a.axle < b.axle := by
  rw [← spreadFlag_iff, keptLoads, decideAxle, withTrigger_spread]

theorem decideAxle_timedOut : (decideAxle d c t).flags.timedOut = true ↔ t = .deadline := by
  simp [decideAxle]

theorem decideAxle_forced : (decideAxle d c t).flags.forced = true ↔ t = .forced := by
  simp [decideAxle]

theorem decideAxle_hole : (decideAxle d c t).flags.hole = false := withTrigger_hole _ t

end Decision

/-- While a SITE is held a decision reads its values (R108). -/
theorem decisionSettings_site {s : State} {st : Site} (h : s.conf.site = some st) : s.decisionSettings =
    { mask := st.mask, quorum := st.quorum, spread := st.spread, count := s.conf.straps.cnt.toNat + 1 } := by
  rw [State.decisionSettings, siteValue_getD, h]
  rfl

/-- Settles O26: the flags one by one, then the means and the noted flags, then the settings. -/
theorem decisionFields : Obligations.DecisionFields := by
  refine ⟨fun d c t => ?flags, fun d c t => ?values, fun s st => decisionSettings_site⟩
  case flags =>
    exact ⟨decideAxle_missing d c t, decideAxle_slipped d c t, decideAxle_spread d c t, decideAxle_timedOut d c t,
      decideAxle_forced d c t, decideAxle_hole d c t, fun _ => mem_present⟩
  case values =>
    exact ⟨floorMean_eq_none, fun _ => floorMean_bounds, rfl, fun f => hasFlag_notedFlags f c.present, rfl⟩

end Sys2Proof.Machine
end

section
/-! Hand-overs: which one is due, the chain, the forced step, the own slip result. -/

namespace Sys2Proof.Machine

/-! ### One hand-over -/

/-- A DECIDED entry of next_expected is handed over (R100). -/
theorem handStep_decided {s : State} {i : Fin 16} {c : Collecting} {a : ConsensusAxle}
    (h : slotOf s.table.slots s.table.nextExpected = some i) (hi : s.table.slots[i] = .decided c a) :
    handStep s = some (handEntry i a s) := by
  unfold handStep
  rw [h]
  dsimp only
  rw [hi]

/-- Where next_expected has no entry, a hole is handed over when it is due (R101). -/
theorem handStep_hole {s : State} (h : slotOf s.table.slots s.table.nextExpected = none) : handStep s =
    if s.holeDue then some (handAxle (holeAxle s.table.nextExpected false) s) else none := by
  unfold handStep
  rw [h]

theorem decidedOrdinal?_eq_some {sl : Slot} {o : Nat} :
    sl.decidedOrdinal? = some o ↔ ∃ c a, sl = .decided c a ∧ c.ordinal = o := by
  cases sl <;> simp [Slot.decidedOrdinal?]

theorem exists_decided_above {slots : Vector Slot 16} {n : Nat} : (∃ o ∈ decidedOrdinals slots, n < o) ↔
    ∃ (i : Fin 16) (c : Collecting) (a : ConsensusAxle), slots[i] = .decided c a ∧ n < c.ordinal := by
  simp only [mem_decidedOrdinals_iff, decidedOrdinal?_eq_some]
  constructor
  · rintro ⟨o, ⟨i, c, a, hi, rfl⟩, hlt⟩
    exact ⟨i, c, a, hi, hlt⟩
  · rintro ⟨i, c, a, hi, hlt⟩
    exact ⟨c.ordinal, ⟨i, c, a, hi, rfl⟩, hlt⟩

/-- A hole is due when a higher entry is DECIDED, and the station does not contribute or has counted that far (R101). -/
theorem holeDue_iff_decided (s : State) : s.holeDue = true ↔
    (∃ (i : Fin 16) (c : Collecting) (a : ConsensusAxle), s.table.slots[i] = .decided c a ∧
      s.table.nextExpected < c.ordinal) ∧
    (s.train.standing ≠ .contributing ∨ s.table.nextExpected ≤ s.wheel.counter) :=
  (holeDue_iff s).trans (and_congr_left' exists_decided_above)

/-! ### The chain -/

/-- Runs that both end with no hand-over due end alike, so fuel beyond the last hand-over is not used. -/
theorem handRun_unique (n m : Nat) (s : State) (hn : handStep (handRun n s) = none)
    (hm : handStep (handRun m s) = none) : handRun n s = handRun m s := by
  induction n generalizing m s with
  | zero =>
    rw [handRun] at hn ⊢
    cases m with
    | zero => rfl
    | succ m => rw [handRun, hn]
  | succ n ih =>
    cases hs : handStep s with
    | none => cases m <;> simp only [handRun, hs]
    | some t =>
      cases m with
      | zero => simp [handRun, hs] at hm
      | succ m =>
        simp only [handRun, hs] at hn hm ⊢
        exact ih m t hn hm

/-- The chain goes on from the state after one hand-over (R100, R101). -/
theorem handChain_step {s t : State} (h : handStep s = some t) : handChain s = handChain t := by
  have hsettled := handChain_settles s
  unfold handChain at hsettled ⊢
  cases hfuel : maxOf (decidedOrdinals s.table.slots) + 1 - s.table.nextExpected with
  | zero => simp [hfuel, handRun, h] at hsettled
  | succ n =>
    simp only [hfuel, handRun, h] at hsettled ⊢
    exact handRun_unique _ _ t hsettled (handChain_settles t)

/-! ### Forced steps -/

/-- A forced step at an OPEN entry decides it and hands it over (R93, R104, R105). -/
theorem forcedStep_opened_eq {s : State} {i : Fin 16} {c : Collecting} {e : Tick}
    (h : slotOf s.table.slots s.table.nextExpected = some i) (hi : s.table.slots[i] = .opened c e) :
    forcedStep s = takeAxle (decideAxle s.decisionSettings c .forced) { decideEntry i c .forced s with
      table := { s.table.raised with slots := s.table.slots.set i .free
                                     latestSpeed := some (decideAxle s.decisionSettings c .forced).speed } } := by
  rw [forcedStep_opened s h hi, handEntry_eq, decideEntry_table]
  dsimp only [ConsensusTable.raised]
  rw [Vector.set_set]

theorem flushTo_past {s : State} {last : Nat} (h : last < s.table.nextExpected) : flushTo last s = s := by
  rw [flushTo, Nat.sub_eq_zero_of_le h]
  rfl

/-- The flush takes one forced step for each ordinal (R104, R105). -/
theorem flushTo_forced {s : State} {last : Nat} (h : s.table.nextExpected ≤ last) :
    flushTo last s = flushTo last (forcedStep s) := by
  have hfuel : last + 1 - s.table.nextExpected = last + 1 - (forcedStep s).table.nextExpected + 1 := by
    rw [forcedStep_nextExpected]
    omega
  rw [flushTo, hfuel, handUpTo, if_pos h]
  rfl

theorem flushTo_nextExpected {s : State} {last : Nat} (h : s.table.nextExpected ≤ last + 1) :
    (flushTo last s).table.nextExpected = last + 1 := by
  rw [flushTo, handUpTo_nextExpected _ _ s rfl, Nat.add_sub_cancel' h]

/-! ### The own slip result -/

/-- Outside CONTRIBUTING standing an own slip result changes nothing (R112). -/
theorem takeOwnSlip_standing {s : State} (h : s.train.standing ≠ .contributing) (b : Bool) :
    takeOwnSlip (some b) s = s := if_neg (mt eq_of_beq h)

/-- The standing DESYNC of a third own slip, its AXLE frames not yet cancelled (R112). -/
def standingLost (s : State) : State := { s with train := { s.train with slips := 3, standing := .desync } }

section Contributing
variable {s : State} (h : s.train.standing = .contributing)
include h

theorem takeOwnSlip_kept : takeOwnSlip (some false) s = { s with train := { s.train with slips := 0 } } := by
  simp [takeOwnSlip, h]

theorem takeOwnSlip_early (hs : s.train.slips < 2) :
    takeOwnSlip (some true) s = { s with train := { s.train with slips := s.train.slips + 1 } } := by
  simp [takeOwnSlip, h, hs]

/-- The third own slip in a row ends the CONTRIBUTING standing (R59, R112). -/
theorem takeOwnSlip_third (hs : s.train.slips = 2) : takeOwnSlip (some true) s = cancelAxles (standingLost s) := by
  simp [takeOwnSlip, h, hs, standingLost]

/-- At the third own slip, of the AXLE frames only one in attempt stays queued (R59, R75). -/
theorem takeOwnSlip_third_leaves (hs : s.train.slips = 2) :
    (takeOwnSlip (some true) s).train = { s.train with slips := 3, standing := .desync } ∧
    ∀ f ∈ (takeOwnSlip (some true) s).link.queue, f.kind = .axle → s.link.attempt = some f.id := by
  rw [takeOwnSlip_third h hs]
  refine ⟨?_, fun f hf hk => cancelAxles_gone (standingLost s) hf hk⟩
  obtain ⟨l, hl⟩ := cancelAxles_frame (standingLost s)
  rw [hl]
  rfl

end Contributing

/-- Settles O60: one hand-over and one forced step case by case, the chain and the flush by their fuel. -/
theorem handOvers : Obligations.HandOvers := by
  refine ⟨?decided, ?opened, ⟨handChain_settled, fun _ _ => handChain_step, handChain_settles⟩, ?hole, ?forced,
    ?decision, ?flushSteps, ?flushEnd, ?slips⟩
  case decided => exact fun s i c a hs hi => handStep_decided hs hi
  case opened => exact fun s i c e hs hi => handStep_collecting hs hi
  case hole =>
    intro s hs due
    have hdue : s.holeDue = true ↔ due := holeDue_iff_decided s
    rw [handStep_hole hs]
    exact ⟨fun hn => if_neg (mt hdue.1 hn), fun hd => if_pos (hdue.2 hd)⟩
  case forced =>
    intro s raised
    exact ⟨forcedStep_none s, fun i hs => ⟨fun c a hi => forcedStep_decided s hs hi,
      fun c e hi => ⟨rfl, forcedStep_opened_eq hs hi⟩⟩⟩
  case decision => exact fun s i c t => decideEntry_eq i c t s
  case flushSteps => exact fun s last => ⟨flushTo_past, flushTo_forced⟩
  case flushEnd => exact fun s last h => ⟨flushTo_nextExpected h, handUpTo_handedCount _ last s rfl⟩
  case slips =>
    exact fun s => ⟨rfl, takeOwnSlip_standing, fun h =>
      ⟨takeOwnSlip_kept h, takeOwnSlip_early h, takeOwnSlip_third_leaves h⟩⟩

end Sys2Proof.Machine
end

section
/-! Which contributions a decision keeps: the order the model sorts by, the lower median, slips, eligibility, the
trim. -/

namespace Sys2Proof.Machine

/-! ### Ascending order -/

section Ascending
variable {α : Type} (key : α → Nat)

theorem insertBy_eq_orderedInsert (x : α) (l : List α) :
    insertBy key x l = l.orderedInsert (fun a b => key a ≤ key b) x := by
  induction l with
  | nil => rfl
  | cons y ys ih => rw [insertBy, ih, List.orderedInsert_cons]

/-- The model's sort is the library's insertion sort. -/
theorem sortBy_eq_insertionSort (l : List α) : sortBy key l = l.insertionSort (fun a b => key a ≤ key b) := by
  induction l with
  | nil => rfl
  | cons x xs ih => rw [sortBy, ih, insertBy_eq_orderedInsert, List.insertionSort_cons]

theorem sortBy_perm (l : List α) : (sortBy key l).Perm l := by
  rw [sortBy_eq_insertionSort]
  exact List.perm_insertionSort _ l

theorem sortBy_ascending (l : List α) : (sortBy key l).Pairwise fun a b => key a ≤ key b := by
  have : Std.Total fun a b : α => key a ≤ key b := ⟨fun a b => le_total (key a) (key b)⟩
  have : IsTrans α fun a b => key a ≤ key b := ⟨fun _ _ _ => le_trans⟩
  rw [sortBy_eq_insertionSort]
  exact List.pairwise_insertionSort _ l

/-- An insertion changes the first member when no key is below the new one. -/
theorem insertBy_head? (x : α) (l : List α) :
    (insertBy key x l).head? = if ∀ y ∈ l.head?, key x ≤ key y then some x else l.head? := by
  cases l with
  | nil => rfl
  | cons y ys =>
    simp only [insertBy, List.head?_cons, Option.mem_some_iff, forall_eq']
    split_ifs <;> rfl

/-- An insertion changes the last member when every key is below the new one. -/
theorem insertBy_getLast? (x : α) (l : List α) :
    (insertBy key x l).getLast? = if ∀ y ∈ l, key y < key x then some x else l.getLast? := by
  induction l with
  | nil => rfl
  | cons y ys ih =>
    rw [insertBy]
    split_ifs with hle hall hall
    · exact absurd (hall y List.mem_cons_self) hle.not_gt
    · exact List.getLast?_cons_cons
    · rw [List.getLast?_cons, ih, if_pos fun z hz => hall z (List.mem_cons_of_mem y hz)]
      rfl
    · have hys : ¬ ∀ z ∈ ys, key z < key x := fun h => hall (List.forall_mem_cons.2 ⟨not_le.1 hle, h⟩)
      rw [List.getLast?_cons, List.getLast?_cons, ih, if_neg hys]

/-- The sorted list begins with the first of the members of least key. -/
theorem sortBy_head_first {l : List α} {lo : α} (h : lo ∈ (sortBy key l).head?) :
    ∃ pre post, l = pre ++ lo :: post ∧ ∀ x ∈ pre, key lo < key x := by
  induction l with
  | nil => cases h
  | cons x xs ih =>
    rw [sortBy, insertBy_head?] at h
    split_ifs at h with hle
    · cases h
      exact ⟨[], xs, rfl, by simp⟩
    · obtain ⟨pre, post, rfl, hpre⟩ := ih h
      have hlt : key lo < key x := by
        by_contra hge
        exact hle fun y hy => Option.mem_unique h hy ▸ not_lt.1 hge
      exact ⟨x :: pre, post, rfl, List.forall_mem_cons.2 ⟨hlt, hpre⟩⟩

/-- The sorted list ends with the last of the members of greatest key. -/
theorem sortBy_getLast_last {l : List α} {hi : α} (h : hi ∈ (sortBy key l).getLast?) :
    ∃ pre post, l = pre ++ hi :: post ∧ ∀ x ∈ post, key x < key hi := by
  induction l with
  | nil => cases h
  | cons x xs ih =>
    rw [sortBy, insertBy_getLast?] at h
    split_ifs at h with hlt
    · cases h
      exact ⟨[], xs, rfl, fun y hy => hlt y ((sortBy_perm key xs).mem_iff.2 hy)⟩
    · obtain ⟨pre, post, rfl, hpost⟩ := ih h
      exact ⟨x :: pre, post, rfl, hpost⟩

end Ascending

/-! ### The lower median -/

/-- The lower median stands at place floor((n + 1) / 2) of the ascending list (R109). -/
theorem lowerMedian_place {l : List Nat} (h : l ≠ []) : ∃ pre m post, lowerMedian l = some m ∧
    sortBy id l = pre ++ m :: post ∧ pre.length + 1 = (l.length + 1) / 2 := by
  have hpos := List.length_pos_iff.2 h
  have hlen := (sortBy_perm id l).length_eq
  have hk : (l.length + 1) / 2 - 1 < (sortBy id l).length := by omega
  refine ⟨(sortBy id l).take ((l.length + 1) / 2 - 1), _, (sortBy id l).drop ((l.length + 1) / 2 - 1 + 1),
    List.getElem?_eq_getElem hk, ?_, ?_⟩
  · rw [List.getElem_cons_drop, List.take_append_drop]
  · rw [List.length_take_of_le hk.le]
    omega

/-- Fewer members than the median's place lie below it, and at least as many do not lie above it. -/
theorem lowerMedian_spec {l : List Nat} (h : l ≠ []) : ∃ m, lowerMedian l = some m ∧ m ∈ l ∧
    (l.filter (· < m)).length < (l.length + 1) / 2 ∧ (l.length + 1) / 2 ≤ (l.filter (· ≤ m)).length := by
  obtain ⟨pre, m, post, hm, hsort, hplace⟩ := lowerMedian_place h
  have hperm := sortBy_perm id l
  have hasc := sortBy_ascending id l
  rw [hsort] at hperm hasc
  simp only [id_eq, List.pairwise_append, List.pairwise_cons, List.forall_mem_cons] at hasc
  obtain ⟨-, ⟨hpost, -⟩, hpre⟩ := hasc
  refine ⟨m, hm, hperm.mem_iff.1 (by simp), ?_, ?_⟩
  · have hnone : (m :: post).filter (· < m) = [] := by simpa using hpost
    rw [← (hperm.filter _).length_eq, List.filter_append, hnone, List.append_nil, ← hplace]
    exact Nat.lt_succ_of_le (List.length_filter_le _ pre)
  · have hall : pre.filter (· ≤ m) = pre := by simpa using fun x hx => (hpre x hx).1
    rw [← (hperm.filter _).length_eq, List.filter_append, hall, List.filter_cons_of_pos (by simp), ← hplace,
      List.length_append, List.length_cons]
    omega

/-! ### Slips -/

section Slips
variable (cs : List Contribution) (x : Contribution)

/-- The slip result by the spacings carried (R109, R111). -/
theorem slipResult_none_iff : slipResult cs x = none ↔ (spacingsOf cs).length < 3 ∨ x.part.spacing = none := by
  by_cases hrun : 3 ≤ (spacingsOf cs).length
  · obtain ⟨m, hm, -⟩ := lowerMedian_spec (List.ne_nil_of_length_pos (Nat.zero_lt_of_lt hrun))
    cases hsp : x.part.spacing <;> simp [slipResult, slipTestRuns, hrun, hm, hsp]
  · simp [slipResult, slipTestRuns, hrun, not_le.1 hrun]

theorem slipResult_true_iff : slipResult cs x = some true ↔ slipped cs x = true := beq_iff_eq.symm

/-- A slip is a spacing more than a quarter away from the median of at least three (R109, R110). -/
theorem slipped_iff : slipped cs x = true ↔ 3 ≤ (spacingsOf cs).length ∧
    ∃ m sp, lowerMedian (spacingsOf cs) = some m ∧ x.part.spacing = some sp ∧
      25 * m < ((sp : Int) - m).natAbs * 100 := by
  rw [← slipResult_true_iff, slipResult]
  by_cases hrun : slipTestRuns cs = true
  · have hthree : 3 ≤ (spacingsOf cs).length := of_decide_eq_true hrun
    rw [if_pos hrun, and_iff_right hthree]
    cases lowerMedian (spacingsOf cs) <;> cases x.part.spacing <;> simp [isSlip, absDiff_eq_natAbs]
  · rw [if_neg hrun]
    simp [mt decide_eq_true hrun]

end Slips

/-! ### Eligibility -/

/-- Each of the fourteen places of a flag set is the place of a flag. -/
theorem PartialFlag.exists_bit_eq {i : Nat} (h : i < 14) : ∃ f : PartialFlag, f.bit = i :=
  ⟨.ofNat i, by rw [bit_eq_ctorIdx]; interval_cases i <;> rfl⟩

theorem sharesFlag_iff (a b : FlagSet) :
    sharesFlag a b = true ↔ ∃ f : PartialFlag, hasFlag a f = true ∧ hasFlag b f = true := by
  have hand (f : PartialFlag) : hasFlag (a &&& b) f = (hasFlag a f && hasFlag b f) := BitVec.getLsbD_and
  simp only [sharesFlag, bne_iff_ne, ne_eq, ← Bool.and_eq_true, ← hand]
  constructor
  · contrapose!
    intro hnone
    refine BitVec.eq_of_getLsbD_eq fun i hi => ?_
    obtain ⟨f, rfl⟩ := PartialFlag.exists_bit_eq hi
    exact (Bool.eq_false_iff.2 (hnone f)).trans (hasFlag_zero f).symm
  · rintro ⟨f, hf⟩ hzero
    rw [hzero, hasFlag_zero] at hf
    cases hf

/-- The flags that exclude whatever the mask holds (R113). -/
theorem sharesFlag_alwaysExcluded (fs : FlagSet) : sharesFlag fs alwaysExcluded = true ↔
    hasFlag fs .noSamples = true ∨ hasFlag fs .zeroLimit = true ∨ hasFlag fs .brokenDwell = true := by
  simp [sharesFlag_iff, alwaysExcluded, and_or_left, exists_or, or_assoc]

theorem eligible_iff (mask : FlagSet) (cs : List Contribution) (x : Contribution) : eligible mask cs x = true ↔
    slipped cs x = false ∧ x.part.loads ≠ none ∧ hasFlag x.part.flags .noSamples = false ∧
      hasFlag x.part.flags .zeroLimit = false ∧ hasFlag x.part.flags .brokenDwell = false ∧
      ∀ f : PartialFlag, ¬ (hasFlag x.part.flags f = true ∧ hasFlag mask f = true) := by
  simp only [eligible, Bool.and_eq_true, Bool.not_eq_true', ← Bool.not_eq_true, Option.isSome_iff_ne_none,
    sharesFlag_alwaysExcluded, not_or, and_assoc]
  simp only [sharesFlag_iff, not_exists]

/-! ### The trim -/

theorem trim_few {ls : List Loads} (h : ls.length < 4) : trim ls = ls := if_neg h.not_ge

/-- Of four or more the trim leaves what stands between the ends of the ascending order (R115). -/
theorem sortBy_eq_trim {ls : List Loads} (h : 4 ≤ ls.length) :
    ∃ lo hi, sortBy Loads.axle ls = lo :: (trim ls ++ [hi]) := by
  have hlen := (sortBy_perm Loads.axle ls).length_eq
  rw [trim, if_pos h]
  cases hs : sortBy Loads.axle ls with
  | nil =>
    rw [hs, List.length_nil] at hlen
    omega
  | cons lo rest =>
    have hrest : rest ≠ [] := by
      rintro rfl
      rw [hs, List.length_singleton] at hlen
      omega
    exact ⟨lo, rest.getLast hrest, by rw [List.drop_one, List.tail_cons, List.dropLast_append_getLast]⟩

/-- The trim drops the first of least axle load and the last of greatest (R115). -/
theorem trim_many {ls : List Loads} (h : 4 ≤ ls.length) : ∃ lo hi : Loads, (lo :: hi :: trim ls).Perm ls ∧
    (∀ x ∈ trim ls, lo.axle ≤ x.axle ∧ x.axle ≤ hi.axle) ∧
    (∃ pre post, ls = pre ++ lo :: post ∧ ∀ x ∈ pre, lo.axle < x.axle) ∧
    (∃ pre post, ls = pre ++ hi :: post ∧ ∀ x ∈ post, x.axle < hi.axle) := by
  obtain ⟨lo, hi, hsort⟩ := sortBy_eq_trim h
  have hperm := sortBy_perm Loads.axle ls
  have hasc := sortBy_ascending Loads.axle ls
  have hfirst := sortBy_head_first Loads.axle (l := ls) (lo := lo)
  have hlast := sortBy_getLast_last Loads.axle (l := ls) (hi := hi)
  rw [hsort] at hperm hasc hfirst hlast
  obtain ⟨hlo, hhi⟩ := List.pairwise_cons.1 hasc
  refine ⟨lo, hi, ((List.perm_append_singleton hi _).symm.cons lo).trans hperm, fun x hx => ⟨?_, ?_⟩,
    hfirst rfl, hlast (by simp [List.getLast?_cons])⟩
  · exact hlo x (List.mem_append_left _ hx)
  · exact hhi.rel_of_mem_append hx (List.mem_singleton_self hi)

theorem keptLoads_eq_trim (mask : FlagSet) (cs : List Contribution) :
    keptLoads mask cs = trim ((cs.filter (eligible mask cs)).filterMap fun x => x.part.loads) := rfl

/-- The present contributions stand in ascending order of position (R108). -/
theorem present_ascending (c : Collecting) : c.present.Pairwise fun x y => x.pos < y.pos := by
  refine (List.pairwise_lt_finRange 8).filterMap _ fun p q hpq x hx y hy => ?_
  obtain ⟨_, -, rfl⟩ := Option.map_eq_some_iff.1 hx
  obtain ⟨_, -, rfl⟩ := Option.map_eq_some_iff.1 hy
  exact hpq

/-- Settles O23: the median, the slips and eligibility, the trim, then the contributions by position. -/
theorem keptContributions : Obligations.KeptContributions := by
  refine ⟨fun _ => lowerMedian_spec, fun mask cs x => ?contribution, fun ls => ⟨trim_few, trim_many⟩,
    keptLoads_eq_trim, fun c => ⟨present_ascending c, fun _ => mem_present⟩⟩
  case contribution =>
    exact ⟨slipped_iff cs x, slipResult_none_iff cs x, slipResult_true_iff cs x, eligible_iff mask cs x⟩

end Sys2Proof.Machine
end

section
/-! Consensus loads, the quorum, and the axle without an eligible contribution. -/

namespace Sys2Proof.Machine

/-! ### The rounded mean -/

section RoundMean
variable {l : List Nat} (h : l ≠ [])
include h

/-- A rounded mean is a whole number, so nothing is lost where the model stores it as one. -/
theorem rounded_roundMean : Rounded .nearest (l.sum : Nat) l.length (roundMean l) := by
  have hpos := List.length_pos_iff.2 h
  have hround := rounded_roundHalfEven (l.sum : Int) hpos
  have hnonneg : 0 ≤ roundHalfEven (l.sum : Int) l.length := by
    unfold roundHalfEven
    have := Int.ediv_nonneg (Int.natCast_nonneg l.sum) (Int.natCast_nonneg l.length)
    dsimp only
    split_ifs <;> omega
  rwa [roundMean, Int.toNat_of_nonneg hnonneg]

theorem roundMean_near : 2 * l.sum ≤ (2 * roundMean l + 1) * l.length ∧
    2 * (roundMean l * l.length) ≤ 2 * l.sum + l.length := by
  obtain ⟨hnear, -⟩ := rounded_roundMean h
  have : (2 * roundMean l + 1) * l.length = 2 * (roundMean l * l.length) + l.length := by ring
  omega

theorem le_roundMean {n : Nat} (hn : ∀ x ∈ l, n ≤ x) : n ≤ roundMean l := by
  have hsum : l.length * n ≤ l.sum := List.card_nsmul_le_sum l n hn
  have hpos := List.length_pos_iff.2 h
  obtain ⟨hlow, -⟩ := roundMean_near h
  by_contra hlt
  nlinarith

theorem roundMean_le {n : Nat} (hn : ∀ x ∈ l, x ≤ n) : roundMean l ≤ n := by
  have hsum : l.sum ≤ l.length * n := List.sum_le_card_nsmul l n hn
  have hpos := List.length_pos_iff.2 h
  obtain ⟨-, hhigh⟩ := roundMean_near h
  by_contra hlt
  nlinarith

/-- A rounded mean lies between the least and the greatest member. -/
theorem roundMean_between : ∃ a ∈ l, ∃ b ∈ l, a ≤ roundMean l ∧ roundMean l ≤ b := by
  obtain ⟨hmin, hge⟩ := (minOf_eq_iff h _).1 rfl
  obtain ⟨hmax, hle⟩ := (maxOf_eq_iff h _).1 rfl
  exact ⟨_, hmin, _, hmax, le_roundMean h hge, roundMean_le h hle⟩

end RoundMean

/-! ### Kept and eligible loads -/

theorem consensusLoads_eq_none {kept : List Loads} : consensusLoads kept = none ↔ kept = [] := by
  cases kept <;> simp [consensusLoads]

theorem consensusLoads_eq_some {kept : List Loads} {x : Loads} : consensusLoads kept = some x ↔
    kept ≠ [] ∧ x = ⟨roundMean (kept.map Loads.left), roundMean (kept.map Loads.right)⟩ := by
  cases kept <;> simp [consensusLoads, eq_comm]

theorem mem_of_mem_trim {ls : List Loads} {l : Loads} (h : l ∈ trim ls) : l ∈ ls := by
  rcases lt_or_ge ls.length 4 with hfew | hmany
  · rwa [trim_few hfew] at h
  · obtain ⟨lo, hi, hperm, -⟩ := trim_many hmany
    exact hperm.mem_iff.1 (List.mem_cons_of_mem lo (List.mem_cons_of_mem hi h))

/-- The trim never drops all loads (R115). -/
theorem trim_eq_nil {ls : List Loads} : trim ls = [] ↔ ls = [] := by
  rcases lt_or_ge ls.length 4 with hfew | hmany
  · rw [trim_few hfew]
  · obtain ⟨lo, hi, hperm, -⟩ := trim_many hmany
    have hlen := hperm.length_eq
    rw [List.length_cons, List.length_cons] at hlen
    simp only [← List.length_eq_zero_iff]
    omega

/-- What is kept are loads of present contributions. -/
theorem exists_of_mem_keptLoads {mask : FlagSet} {cs : List Contribution} {l : Loads} (h : l ∈ keptLoads mask cs) :
    ∃ y ∈ cs, y.part.loads = some l := by
  obtain ⟨y, hy, hl⟩ := List.mem_filterMap.1 (mem_of_mem_trim h)
  exact ⟨y, List.mem_of_mem_filter hy, hl⟩

/-- Each eligible contribution brings loads, so the eligible count is the count of their loads (R113). -/
theorem length_eligibleLoads (mask : FlagSet) (cs : List Contribution) :
    (eligibleLoads mask cs).length = (cs.filter (eligible mask cs)).length := by
  rw [eligibleLoads, List.length_filterMap_eq_countP, List.countP_eq_length]
  intro x hx
  obtain ⟨-, hloads, -⟩ := (eligible_iff mask cs x).1 (List.of_mem_filter hx)
  exact Option.isSome_iff_ne_none.2 hloads

/-! ### One channel's consensus load -/

/-- The rounded mean of one channel over the kept loads (R116). -/
theorem roundMean_channel (f : Loads → Nat) {kept : List Loads} (h : kept ≠ []) :
    Rounded .nearest ((kept.map f).sum : Nat) kept.length (roundMean (kept.map f)) ∧
    (∃ a ∈ kept, ∃ b ∈ kept, f a ≤ roundMean (kept.map f) ∧ roundMean (kept.map f) ≤ f b) := by
  have hmap : kept.map f ≠ [] := List.map_eq_nil_iff.not.2 h
  have hround := rounded_roundMean hmap
  rw [List.length_map] at hround
  obtain ⟨_, hlow, _, hhigh, hle⟩ := roundMean_between hmap
  obtain ⟨a, ha, rfl⟩ := List.mem_map.1 hlow
  obtain ⟨b, hb, rfl⟩ := List.mem_map.1 hhigh
  exact ⟨hround, a, ha, b, hb, hle⟩

/-- Settles O24: each channel's load is a rounded mean, and the greatest kept load bounds it. -/
theorem Settled.consensusLoads : Obligations.ConsensusLoads := by
  intro d c t x hx kept
  obtain ⟨hkept, rfl⟩ := consensusLoads_eq_some.1 hx
  obtain ⟨hleft, hleftIn⟩ := roundMean_channel Loads.left hkept
  obtain ⟨hright, hrightIn⟩ := roundMean_channel Loads.right hkept
  refine ⟨hkept, hleft, hright, hleftIn, hrightIn, fun hbound => ?_⟩
  have hall (l : Loads) (hl : l ∈ kept) : l.left ≤ 65535 ∧ l.right ≤ 65535 := by
    obtain ⟨y, hy, hload⟩ := exists_of_mem_keptLoads hl
    exact hbound y hy l hload
  obtain ⟨-, -, a, ha, -, hl⟩ := hleftIn
  obtain ⟨-, -, b, hb, -, hr⟩ := hrightIn
  have hl := hl.trans (hall a ha).1
  have hr := hr.trans (hall b hb).2
  exact ⟨hl, hr, Nat.add_le_add hl hr⟩

/-! ### The quorum -/

section Quorum

@[simp] theorem withTrigger_lowQuorum (f : ConsensusFlags) (t : Trigger) :
    (f.withTrigger t).lowQuorum = f.lowQuorum := by cases t <;> rfl

@[simp] theorem withTrigger_unweighed (f : ConsensusFlags) (t : Trigger) :
    (f.withTrigger t).unweighed = f.unweighed := by cases t <;> rfl

variable (d : DecisionSettings) (c : Collecting) (t : Trigger)

/-- LOW_QUORUM (R117): the quorum is taken as at least 1 and at most N. -/
theorem decideAxle_lowQuorum : (decideAxle d c t).flags.lowQuorum = true ↔
    0 < (eligibleLoads d.mask c.present).length ∧
      (eligibleLoads d.mask c.present).length < max 1 (min d.quorum d.count) := by
  simp [decideAxle, lowQuorumFlag, clampNat]

theorem decideAxle_unweighed : (decideAxle d c t).flags.unweighed = true ↔
    (eligibleLoads d.mask c.present).length = 0 := by
  simp [decideAxle]

theorem decideAxle_loads_eq_none : (decideAxle d c t).loads = none ↔
    (eligibleLoads d.mask c.present).length = 0 := by
  rw [List.length_eq_zero_iff]
  exact consensusLoads_eq_none.trans trim_eq_nil

end Quorum

/-- Settles O25: each flag by the eligible count, then the two ends of the quorum's range. -/
theorem quorumAndUnweighed : Obligations.QuorumAndUnweighed := by
  refine ⟨fun d c t hcount => ?flags, fun s st hsite => ?settings⟩
  case settings =>
    rw [decisionSettings_site hsite]
    exact ⟨rfl, rfl⟩
  case flags =>
    intro a k
    have hk : (eligibleLoads d.mask c.present).length = k := length_eligibleLoads d.mask c.present
    have hlow : a.flags.lowQuorum = true ↔ 0 < k ∧ k < max 1 (min d.quorum d.count) :=
      hk ▸ decideAxle_lowQuorum d c t
    have hunweighed : a.flags.unweighed = true ↔ k = 0 := hk ▸ decideAxle_unweighed d c t
    refine ⟨hlow, hunweighed, hk ▸ decideAxle_loads_eq_none d c t, ?_, fun hone => ?_, fun hall hpos => ?_⟩
    · rw [hlow, hunweighed]
      omega
    · rw [← Bool.not_eq_true, hlow]
      omega
    · rw [hlow]
      omega

end Sys2Proof.Machine
end

section
/-! The record of a closing vehicle. -/

namespace Sys2Proof.Machine

/-! ### Totals and means -/

/-- An unweighed axle adds nothing to a total (R136). -/
theorem totalOf_eq_sum (f : Loads → Nat) (axles : List VehicleAxle) :
    totalOf f axles = ((axles.filterMap fun a => a.axle.loads).map f).sum := by
  induction axles with
  | nil => rfl
  | cons a as ih =>
    rw [totalOf] at ih ⊢
    rw [List.map_cons, List.sum_cons, ih]
    cases h : a.axle.loads <;> simp [h]

theorem totalOf_axle (axles : List VehicleAxle) :
    totalOf Loads.axle axles = totalOf Loads.left axles + totalOf Loads.right axles := by
  simp only [totalOf_eq_sum, ← List.sum_map_add]
  rfl

/-- A total is at most the greatest load times the number of axles. -/
theorem totalOf_le (f : Loads → Nat) {axles : List VehicleAxle} {b n : Nat} (hlen : axles.length ≤ n)
    (hb : ∀ l ∈ axles.filterMap fun a => a.axle.loads, f l ≤ b) : totalOf f axles ≤ n * b := by
  have hcount : ((axles.filterMap fun a => a.axle.loads).map f).length ≤ n := by
    rw [List.length_map]
    exact (List.length_filterMap_le _ axles).trans hlen
  calc totalOf f axles
      = ((axles.filterMap fun a => a.axle.loads).map f).sum := totalOf_eq_sum f axles
    _ ≤ ((axles.filterMap fun a => a.axle.loads).map f).length * b :=
        List.sum_le_card_nsmul _ b (List.forall_mem_map.2 hb)
    _ ≤ n * b := Nat.mul_le_mul_right b hcount

theorem floorMean_eq_some {l : List Nat} (h : l ≠ []) : floorMean l = some (l.sum / l.length) :=
  if_neg (mt List.isEmpty_iff.1 h)

theorem vehicleSpeed_eq_none {axles : List VehicleAxle} :
    vehicleSpeed axles = none ↔ (axles.filterMap fun a => a.axle.speed) = [] :=
  Option.map_eq_none_iff.trans floorMean_eq_none

/-- A present mean speed is held at 65,534, one below the code of an absent one (R138). -/
theorem vehicleSpeed_present {axles : List VehicleAxle} (h : (axles.filterMap fun a => a.axle.speed) ≠ []) :
    vehicleSpeed axles = some (min ((axles.filterMap fun a => a.axle.speed).sum /
      (axles.filterMap fun a => a.axle.speed).length) 65534) := by
  rw [vehicleSpeed, floorMean_eq_some h]
  rfl

/-! ### Flags -/

section Flags
variable (axles : List VehicleAxle)

theorem axleFlags_partly : (axleFlags axles).partly = true ↔ ∃ a ∈ axles, a.axle.flags.unweighed = true :=
  List.any_eq_true

/-- Every consensus flag but SLIPPED makes a vehicle DOUBTFUL (R123, R137). -/
theorem axleFlags_doubtful : (axleFlags axles).doubtful = true ↔ ∃ a ∈ axles,
    a.axle.flags.missing = true ∨ a.axle.flags.lowQuorum = true ∨ a.axle.flags.unweighed = true ∨
    a.axle.flags.spread = true ∨ a.axle.flags.hole = true ∨ a.axle.flags.forced = true ∨
    a.axle.flags.timedOut = true := by
  simp [axleFlags, ConsensusFlags.doubtful, or_assoc]

theorem hasFlag_foldl_noted (f : PartialFlag) (fs : FlagSet) :
    hasFlag (axles.foldl (fun fs a => fs ||| a.axle.noted) fs) f =
      (hasFlag fs f || axles.any fun a => hasFlag a.axle.noted f) := by
  induction axles generalizing fs with
  | nil => simp
  | cons a as ih => rw [List.foldl_cons, ih, hasFlag_or, List.any_cons, Bool.or_assoc]

/-- The summary holds what an axle of the vehicle notes (R138). -/
theorem hasFlag_flagSummary (f : PartialFlag) :
    hasFlag (flagSummary axles) f = true ↔ ∃ a ∈ axles, hasFlag a.axle.noted f = true := by
  rw [flagSummary, hasFlag_foldl_noted, hasFlag_zero, Bool.false_or, List.any_eq_true]

end Flags

/-! ### The record -/

section Record
variable (n : BitVec 8) (closing : VehicleFlags) (v : OpenVehicle)

/-- PARTIAL comes from the opening, the closing or an unweighed axle (R137). -/
theorem recordOf_partly : (recordOf n closing v).flags.partly = true ↔
    v.flags.partly = true ∨ closing.partly = true ∨ ∃ a ∈ v.axles, a.axle.flags.unweighed = true := by
  rw [← axleFlags_partly]
  simp [recordOf, VehicleFlags.join, or_assoc]

/-- DOUBTFUL comes from the opening, the closing or an axle's flags (R137). -/
theorem recordOf_doubtful : (recordOf n closing v).flags.doubtful = true ↔
    v.flags.doubtful = true ∨ closing.doubtful = true ∨ ∃ a ∈ v.axles,
      a.axle.flags.missing = true ∨ a.axle.flags.lowQuorum = true ∨ a.axle.flags.unweighed = true ∨
      a.axle.flags.spread = true ∨ a.axle.flags.hole = true ∨ a.axle.flags.forced = true ∨
      a.axle.flags.timedOut = true := by
  rw [← axleFlags_doubtful]
  simp [recordOf, VehicleFlags.join, or_assoc]

/-- The other flags of a record come from its opening and its close alone (R137). -/
theorem recordOf_flags_other :
    ∀ g ∈ [VehicleFlags.first, VehicleFlags.last, VehicleFlags.unresolved, VehicleFlags.split, VehicleFlags.gap,
        VehicleFlags.reversed],
      g (recordOf n closing v).flags = true ↔ g v.flags = true ∨ g closing = true := by
  simp [recordOf, VehicleFlags.join, axleFlags]

/-- Twelve axles of wheel loads up to 65,535 kg keep the totals within R136. -/
theorem recordOf_totals_le (hlen : v.axles.length ≤ 12)
    (hloads : ∀ l ∈ v.axles.filterMap fun a => a.axle.loads, l.left ≤ 65535 ∧ l.right ≤ 65535) :
    (recordOf n closing v).left ≤ 786420 ∧ (recordOf n closing v).right ≤ 786420 ∧
      (recordOf n closing v).gross ≤ 1572840 := by
  have hleft : totalOf Loads.left v.axles ≤ 12 * 65535 := totalOf_le _ hlen fun l hl => (hloads l hl).1
  have hright : totalOf Loads.right v.axles ≤ 12 * 65535 := totalOf_le _ hlen fun l hl => (hloads l hl).2
  exact ⟨hleft, hright, Nat.add_le_add hleft hright⟩

end Record

/-- Settles O28: the totals and means over the axles, then the flags by where they come from, then the bounds. -/
theorem vehicleRecordFields : Obligations.VehicleRecordFields := by
  intro n closing v r ls vs
  have hleft : r.left = (ls.map Loads.left).sum := totalOf_eq_sum Loads.left v.axles
  have hright : r.right = (ls.map Loads.right).sum := totalOf_eq_sum Loads.right v.axles
  have hgross : r.gross = (ls.map Loads.axle).sum := (totalOf_axle v.axles).symm.trans (totalOf_eq_sum _ v.axles)
  have hother := recordOf_flags_other n closing v
  simp only [List.forall_mem_cons] at hother
  obtain ⟨hfirst, hlast, hunresolved, hsplit, hgap, hreversed, -⟩ := hother
  exact ⟨rfl, rfl, rfl, rfl, rfl, hleft, hright, rfl, hgross, vehicleSpeed_eq_none, vehicleSpeed_present,
    recordOf_partly n closing v, recordOf_doubtful n closing v, hfirst, hlast, hunresolved, hsplit, hgap, hreversed,
    hasFlag_flagSummary v.axles, recordOf_totals_le n closing v⟩

end Sys2Proof.Machine
end

section
/-! Spacing classes, groups, and what the Vehicle Assembler does with an axle, case by case. -/

namespace Sys2Proof.Machine

/-! ### Spacing classes -/

/-- Each class by its boundaries (R125). -/
theorem classOf_iff {b1 b2 b3 : Nat} (h12 : b1 < b2) (h23 : b2 < b3) (sp : Option Nat) :
    (classOf b1 b2 b3 sp = .bogie ↔ ∃ x, sp = some x ∧ x < b1) ∧
    (classOf b1 b2 b3 sp = .coupling ↔ sp = none ∨ ∃ x, sp = some x ∧ b1 ≤ x ∧ x < b2) ∧
    (classOf b1 b2 b3 sp = .body ↔ ∃ x, sp = some x ∧ b2 ≤ x ∧ x < b3) ∧
    (classOf b1 b2 b3 sp = .gap ↔ ∃ x, sp = some x ∧ b3 ≤ x) := by
  cases sp with
  | none => simp [classOf]
  | some x =>
    simp only [classOf, Option.some.injEq, reduceCtorEq, false_or, exists_eq_left']
    split_ifs <;> simp <;> omega

theorem axleClass_site {s : State} {st : Site} (h : s.conf.site = some st) (a : ConsensusAxle) :
    s.axleClass a = classOf st.b1 st.b2 st.b3 a.spacing := by
  rw [State.axleClass, State.siteValue, h]

/-- The boundaries of an accepted SITE: the clamps leave them as they passed the check (R171). -/
theorem readSite_boundaries {n len : Nat} {p : List Byte} {st : Site} (h : readSite n len p = some st) :
    st.b1 < st.b2 ∧ st.b2 < st.b3 ∧ len < st.b1 * 10 := by
  unfold readSite at h
  dsimp only at h
  split at h
  · rename_i hcheck
    cases h
    simpa [clampSite, and_assoc] using hcheck
  · cases h

/-- Settles O27: the classes by their boundaries, and the boundaries of an accepted SITE. -/
theorem spacingClasses : Obligations.SpacingClasses := by
  refine ⟨fun s st a hsite h12 h23 => ?_, fun n len p st h => ?_⟩
  · rw [axleClass_site hsite]
    exact classOf_iff h12 h23 a.spacing
  · obtain ⟨h12, h23, hlen⟩ := readSite_boundaries h
    exact ⟨h12, h23, hlen, fun b2 b3 => if_pos (by omega)⟩

/-! ### Groups -/

theorem growLast_append (gs : List Nat) (g : Nat) : growLast (gs ++ [g]) = gs ++ [g + 1] := by
  induction gs with
  | nil => rfl
  | cons k ks ih =>
    cases ks with
    | nil => rfl
    | cons l ls => exact congrArg (k :: ·) ih

theorem lastSize_append (gs : List Nat) (g : Nat) : lastSize (gs ++ [g]) = g := by simp [lastSize]

/-! ### Opening, closing, appending -/

theorem takeOwnRecord_asm (r : VehicleRecord) (s : State) : (takeOwnRecord r s).asm = s.asm := by
  obtain ⟨_, _, _, _, h⟩ := takeOwnRecord_frame r s
  rw [h]

/-- The station with `o` as its open vehicle. -/
def State.holding (s : State) (o : Option OpenVehicle) : State := { s with asm := { s.asm with vehicle := o } }

theorem State.holding_self {s : State} {o : Option OpenVehicle} (h : s.asm.vehicle = o) : s.holding o = s := by
  rw [State.holding, ← h]

/-- The record of a closing vehicle goes to the Publication Table, with no vehicle open (R136, R139). -/
theorem closeVehicle_holding (closing : VehicleFlags) (s : State) (v : OpenVehicle) :
    closeVehicle closing (s.holding (some v)) =
      takeOwnRecord (recordOf s.train.number closing v) (s.holding none) := rfl

/-- A close leaves the vehicle counter and the full-close mark (R136, R139). -/
theorem closeVehicle_asm (closing : VehicleFlags) (s : State) :
    (closeVehicle closing s).asm = { s.asm with vehicle := none } := by
  unfold closeVehicle
  split
  · rename_i h
    rw [← h]
  · exact takeOwnRecord_asm _ _

/-- The vehicle an axle opens beside the Vehicle Assembler `m` (R127, R128). -/
def openedBy (split : Bool) (a : VehicleAxle) (m : Assembler) : Assembler :=
  { vehicle := some { ordinal := min (m.counter + 1) 4095, firstAxle := a.axle.ordinal, groups := [1], axles := [a]
                      flags := openingFlags m.counter m.fullClose split a.cls }
    counter := min (m.counter + 1) 4095
    fullClose := false }

theorem openVehicle_eq (split : Bool) (a : VehicleAxle) (s : State) :
    openVehicle split a s = { s with asm := openedBy split a s.asm } := rfl

/-- Where a vehicle closes and the axle opens the next, the counter and the full-close mark are those before (R127,
R139). -/
theorem openVehicle_closed (split : Bool) (a : VehicleAxle) (closing : VehicleFlags) (s : State) :
    openVehicle split a (closeVehicle closing s) =
      { closeVehicle closing s with asm := openedBy split a s.asm } := by
  rw [openVehicle_eq, closeVehicle_asm]
  rfl

/-- An open vehicle with one more axle (R129, R130). -/
def OpenVehicle.appended (v : OpenVehicle) (groups : List Nat) (unresolved : Bool) (a : VehicleAxle) : OpenVehicle :=
  { v with groups := groups, axles := v.axles ++ [a]
           flags := { v.flags with unresolved := v.flags.unresolved || unresolved } }

section Append
variable (v : OpenVehicle) (groups : List Nat) (unresolved : Bool) (a : VehicleAxle) (s : State)

theorem appended_length : (v.appended groups unresolved a).axles.length = v.axles.length + 1 :=
  List.length_append

theorem appendAxle_eq : appendAxle v groups unresolved a s =
    if (v.appended groups unresolved a).axles.length == 12 then
      let t := closeVehicle { unresolved := true } (s.holding (some (v.appended groups unresolved a)))
      { t with asm := { t.asm with fullClose := true } }
    else s.holding (some (v.appended groups unresolved a)) := rfl

theorem appendAxle_fits (h : v.axles.length ≠ 11) :
    appendAxle v groups unresolved a s = s.holding (some (v.appended groups unresolved a)) := by
  rw [appendAxle_eq, if_neg (by simpa [appended_length] using h)]

/-- The twelfth axle closes the vehicle and sets the full-close mark (R133). -/
theorem appendAxle_twelfth (h : v.axles.length = 11) : appendAxle v groups unresolved a s =
    { takeOwnRecord (recordOf s.train.number { unresolved := true } (v.appended groups unresolved a))
        (s.holding none) with
      asm := { s.asm with vehicle := none, fullClose := true } } := by
  rw [appendAxle_eq, if_pos (by simp [appended_length, h]), closeVehicle_holding]
  dsimp only
  rw [takeOwnRecord_asm]
  rfl

end Append

/-! ### An axle taken, by class -/

section Take
variable {s : State} {v : OpenVehicle} (a : ConsensusAxle)

theorem takeAxle_noVehicle (h : s.asm.vehicle = none) :
    takeAxle a s = openVehicle false ⟨a, s.axleClass a⟩ s := by
  unfold takeAxle
  rw [h]

theorem takeAxle_bogie (h : s.asm.vehicle = some v) (hc : s.axleClass a = .bogie) :
    takeAxle a s = takeBogie v ⟨a, s.axleClass a⟩ s := by
  unfold takeAxle
  rw [h, hc]

theorem takeAxle_body (h : s.asm.vehicle = some v) (hc : s.axleClass a = .body) :
    takeAxle a s = takeBody v ⟨a, s.axleClass a⟩ s := by
  unfold takeAxle
  rw [h, hc]

theorem takeAxle_coupling (h : s.asm.vehicle = some v) (hc : s.axleClass a = .coupling) :
    takeAxle a s = openVehicle false ⟨a, s.axleClass a⟩ (closeVehicle {} s) := by
  unfold takeAxle
  rw [h, hc]

theorem takeAxle_gap (h : s.asm.vehicle = some v) (hc : s.axleClass a = .gap) :
    takeAxle a s = openVehicle false ⟨a, s.axleClass a⟩ (closeVehicle { gap := true } s) := by
  unfold takeAxle
  rw [h, hc]

end Take

section Groups
variable {v : OpenVehicle} {gs : List Nat} {g : Nat} (hv : v.groups = gs ++ [g]) (a : VehicleAxle) (s : State)
include hv

/-- A BOGIE axle joins a last group of fewer than four (R129). -/
theorem takeBogie_joins (hg : g < 4) : takeBogie v a s = appendAxle v (gs ++ [g + 1]) false a s := by
  rw [takeBogie, hv, lastSize_append, if_pos hg, growLast_append]

/-- A BOGIE axle after a full last group starts a group, UNRESOLVED (R129). -/
theorem takeBogie_starts (hg : 4 ≤ g) (hl : gs.length < 2) :
    takeBogie v a s = appendAxle v (gs ++ [g, 1]) true a s := by
  have hroom : (gs ++ [g]).length < 3 := by rw [List.length_append]; exact Nat.succ_lt_succ hl
  rw [takeBogie, hv, lastSize_append, if_neg (by omega), if_pos hroom, List.append_assoc]
  rfl

/-- A BOGIE axle after a full third group opens the next vehicle (R129). -/
theorem takeBogie_splits (hg : 4 ≤ g) (hl : 2 ≤ gs.length) : takeBogie v a s = splitAt a s := by
  rw [takeBogie, hv, lastSize_append, if_neg (by omega), if_neg (by simpa using hl)]

/-- A BODY axle starts a group (R130). -/
theorem takeBody_starts (hl : gs.length < 2) : takeBody v a s = appendAxle v (gs ++ [g, 1]) false a s := by
  have hroom : (gs ++ [g]).length < 3 := by rw [List.length_append]; exact Nat.succ_lt_succ hl
  rw [takeBody, hv, if_pos hroom, List.append_assoc]
  rfl

/-- A BODY axle after a third group opens the next vehicle (R130). -/
theorem takeBody_splits (hl : 2 ≤ gs.length) : takeBody v a s = splitAt a s := by
  rw [takeBody, hv, if_neg (by simpa using hl)]

end Groups

/-- Settles O59: the equation of each class, then of the groups, then of the twelfth axle. -/
theorem assemblerTakes : Obligations.AssemblerTakes := by
  intro s a va opened closed unresolved
  refine ⟨fun h => takeAxle_noVehicle a h, fun v gs g hv hgroups => ?_⟩
  have hopen : ∀ (closing : VehicleFlags) (split : Bool), openVehicle split va (closeVehicle closing s) =
      opened (closed v closing) (s.asm.counter == 0) unresolved split := by
    intro closing split
    rw [openVehicle_closed, ← State.holding_self hv, closeVehicle_holding]
    dsimp only [opened, closed]
    rw [takeOwnRecord_asm]
    rfl
  intro grown appended
  have happend : ∀ (groups : List Nat) (unres : Bool), takeAxle a s = appendAxle v groups unres va s →
      appended (grown groups unres) := fun groups unres h =>
    ⟨fun hlen => h.trans (appendAxle_fits v groups unres va s hlen),
      fun hlen => h.trans (appendAxle_twelfth v groups unres va s hlen)⟩
  refine ⟨fun hc hg => happend _ _ ?_, fun hc hg hl => happend _ _ ?_, fun hc hl => happend _ _ ?_, fun hc hl => ?_,
    fun hc => ?_, fun hc => ?_⟩
  · rw [takeAxle_bogie a hv hc, takeBogie_joins hgroups _ s hg]
  · rw [takeAxle_bogie a hv hc, takeBogie_starts hgroups _ s hg.ge hl]
  · rw [takeAxle_body a hv hc, takeBody_starts hgroups _ s hl]
  · refine Eq.trans ?_ (hopen { split := true } true)
    rcases hc with ⟨hc, hg⟩ | hc
    · rw [takeAxle_bogie a hv hc, takeBogie_splits hgroups _ s hg.ge hl.ge]
      rfl
    · rw [takeAxle_body a hv hc, takeBody_splits hgroups _ s hl.ge]
      rfl
  · have hu : unresolved = false := by simp [unresolved, hc]
    have h := hopen {} false
    rw [hu] at h
    exact (takeAxle_coupling a hv hc).trans h
  · have hu : unresolved = false := by simp [unresolved, hc]
    have h := hopen { gap := true } false
    rw [hu] at h
    exact (takeAxle_gap a hv hc).trans h

end Sys2Proof.Machine
end

section
/-! The open vehicle's shape: an axle taken keeps it, every other change leaves the vehicle, closes it or resets the
block; every step keeps it. -/

namespace Sys2Proof.Machine

/-! ### The shape of an open vehicle -/

theorem assemblerInv_noVehicle {m : Assembler} (hc : m.counter ≤ 4095) (hv : m.vehicle = none) : AssemblerInv m :=
  ⟨hc, fun v h => by rw [hv] at h; cases h⟩

/-- A newly opened vehicle has one group of one axle, whatever the block held (R127, R128). -/
theorem openedBy_inv (split : Bool) (a : VehicleAxle) (m : Assembler) : AssemblerInv (openedBy split a m) where
  counter := Nat.min_le_right _ _
  vehicle v h := by
    cases h
    exact ⟨⟨by dsimp only; omega, Nat.min_le_right _ _⟩, by simp, by simp, rfl, by simp⟩

theorem openVehicle_inv (split : Bool) (a : VehicleAxle) (s : State) : AssemblerInv (openVehicle split a s).asm :=
  openedBy_inv split a s.asm

theorem closeVehicle_inv (closing : VehicleFlags) {s : State} (h : AssemblerInv s.asm) :
    AssemblerInv (closeVehicle closing s).asm := by
  rw [closeVehicle_asm]
  exact assemblerInv_noVehicle h.counter rfl

/-- `groups` hold one axle more than `old`, within the limits of R129 and R130. -/
structure GroupsFit (old groups : List Nat) : Prop where
  length : 1 ≤ groups.length ∧ groups.length ≤ 3
  sizes : ∀ g ∈ groups, 1 ≤ g ∧ g ≤ 4
  sum : groups.sum = old.sum + 1

theorem groupsFit_joins {gs : List Nat} {g : Nat} (hl : gs.length ≤ 2) (hs : ∀ k ∈ gs ++ [g], 1 ≤ k ∧ k ≤ 4)
    (hg : g < 4) : GroupsFit (gs ++ [g]) (gs ++ [g + 1]) := by
  simp only [List.forall_mem_append, List.forall_mem_singleton] at hs
  refine ⟨by simp; omega, ?_, by simp [Nat.add_assoc]⟩
  simp only [List.forall_mem_append, List.forall_mem_singleton]
  exact ⟨hs.1, by omega⟩

theorem groupsFit_starts {gs : List Nat} {g : Nat} (hl : gs.length < 2) (hs : ∀ k ∈ gs ++ [g], 1 ≤ k ∧ k ≤ 4) :
    GroupsFit (gs ++ [g]) (gs ++ [g, 1]) := by
  simp only [List.forall_mem_append, List.forall_mem_singleton] at hs
  refine ⟨by simp; omega, ?_, by simp [Nat.add_assoc]⟩
  simp only [List.forall_mem_append, List.forall_mem_cons]
  exact ⟨hs.1, hs.2, by decide⟩

/-- An axle appended within the limits leaves a vehicle in shape, or closes the vehicle it fills (R133). -/
theorem appendAxle_inv {s : State} {v : OpenVehicle} {groups : List Nat} (h : AssemblerInv s.asm) (hv : VehicleShape v)
    (hg : GroupsFit v.groups groups) (u : Bool) (a : VehicleAxle) : AssemblerInv (appendAxle v groups u a s).asm := by
  have hlen := appended_length v groups u a
  by_cases h11 : v.axles.length = 11
  · rw [appendAxle_twelfth v groups u a s h11]
    exact assemblerInv_noVehicle h.counter rfl
  · rw [appendAxle_fits v groups u a s h11]
    refine ⟨h.counter, fun w hw => ?_⟩
    cases hw
    have hfew := hv.axles
    exact ⟨hv.ordinal, hg.length, hg.sizes, by rw [hlen, ← hv.count]; exact hg.sum, by omega⟩

/-- The groups of a vehicle in shape, the last one apart. -/
theorem VehicleShape.lastGroup {v : OpenVehicle} (hv : VehicleShape v) :
    ∃ gs g, v.groups = gs ++ [g] ∧ gs.length ≤ 2 ∧ ∀ k ∈ gs ++ [g], 1 ≤ k ∧ k ≤ 4 := by
  obtain ⟨hlo, hhi⟩ := hv.groups
  rcases List.eq_nil_or_concat v.groups with h | ⟨gs, g, h⟩
  · simp [h] at hlo
  · rw [List.concat_eq_append] at h
    exact ⟨gs, g, h, by simpa [h, Nat.lt_succ_iff] using hhi, h ▸ hv.sizes⟩

theorem takeBogie_inv {s : State} {v : OpenVehicle} (h : AssemblerInv s.asm) (hv : VehicleShape v) (a : VehicleAxle) :
    AssemblerInv (takeBogie v a s).asm := by
  obtain ⟨gs, g, hgroups, hl, hs⟩ := hv.lastGroup
  by_cases hg : g < 4
  · rw [takeBogie_joins hgroups a s hg]
    exact appendAxle_inv h hv (hgroups ▸ groupsFit_joins hl hs hg) _ a
  · by_cases hroom : gs.length < 2
    · rw [takeBogie_starts hgroups a s (Nat.not_lt.1 hg) hroom]
      exact appendAxle_inv h hv (hgroups ▸ groupsFit_starts hroom hs) _ a
    · rw [takeBogie_splits hgroups a s (Nat.not_lt.1 hg) (Nat.not_lt.1 hroom)]
      exact openVehicle_inv _ _ _

theorem takeBody_inv {s : State} {v : OpenVehicle} (h : AssemblerInv s.asm) (hv : VehicleShape v) (a : VehicleAxle) :
    AssemblerInv (takeBody v a s).asm := by
  obtain ⟨gs, g, hgroups, -, hs⟩ := hv.lastGroup
  by_cases hroom : gs.length < 2
  · rw [takeBody_starts hgroups a s hroom]
    exact appendAxle_inv h hv (hgroups ▸ groupsFit_starts hroom hs) _ a
  · rw [takeBody_splits hgroups a s (Nat.not_lt.1 hroom)]
    exact openVehicle_inv _ _ _

theorem takeAxle_inv (a : ConsensusAxle) {s : State} (h : AssemblerInv s.asm) : AssemblerInv (takeAxle a s).asm := by
  cases hv : s.asm.vehicle with
  | none =>
    rw [takeAxle_noVehicle a hv]
    exact openVehicle_inv _ _ _
  | some v =>
    have hshape := h.vehicle v hv
    cases hc : s.axleClass a with
    | bogie =>
      rw [takeAxle_bogie a hv hc]
      exact takeBogie_inv h hshape _
    | body =>
      rw [takeAxle_body a hv hc]
      exact takeBody_inv h hshape _
    | coupling =>
      rw [takeAxle_coupling a hv hc]
      exact openVehicle_inv _ _ _
    | gap =>
      rw [takeAxle_gap a hv hc]
      exact openVehicle_inv _ _ _

/-! ### What can happen to the Vehicle Assembler -/

/-- One change, seen from the Vehicle Assembler. -/
inductive AsmMove : State → State → Prop where
  | same {s t : State} (h : t.asm = s.asm) : AsmMove s t
  /-- A consensus axle is handed over (R126). -/
  | takes (a : ConsensusAxle) (s : State) : AsmMove s (takeAxle a s)
  /-- The open vehicle closes with its train (R134, R135). -/
  | closes (closing : VehicleFlags) (s : State) : AsmMove s (closeVehicle closing s)
  /-- A train opens (R156). -/
  | opens {s t : State} (h : t.asm = { s.asm with counter := 0, fullClose := false }) : AsmMove s t
  /-- Power-on reset or RESTART (R167, R174). -/
  | resets {s t : State} (h : t.asm = State.reset.asm) : AsmMove s t

/-- Any number of such changes. -/
abbrev AsmMoves : State → State → Prop := Relation.ReflTransGen AsmMove

theorem AsmMove.inv {s t : State} (m : AsmMove s t) (h : AssemblerInv s.asm) : AssemblerInv t.asm := by
  cases m with
  | same hm => exact hm ▸ h
  | takes a => exact takeAxle_inv a h
  | closes closing => exact closeVehicle_inv closing h
  | opens hm => exact hm ▸ ⟨Nat.zero_le _, h.vehicle⟩
  | resets hm => exact hm ▸ assemblerInv_noVehicle (Nat.zero_le _) rfl

theorem AsmMoves.inv {s t : State} (m : AsmMoves s t) (h : AssemblerInv s.asm) : AssemblerInv t.asm := by
  induction m with
  | refl => exact h
  | tail _ m ih => exact m.inv ih

theorem AsmMove.moves {s t : State} (m : AsmMove s t) : AsmMoves s t := .single m

theorem AsmMoves.of_same {s t : State} (h : t.asm = s.asm) : AsmMoves s t := (AsmMove.same h).moves

theorem AsmMoves.of_reset {s t : State} (h : t.asm = State.reset.asm) : AsmMoves s t := (AsmMove.resets h).moves

/-- The Consensus Table is no part of the Vehicle Assembler. -/
theorem table_moves (s : State) (tb : ConsensusTable) : AsmMoves s { s with table := tb } := .of_same rfl

/-- The Link Controller, the Rate Controller, the Wheel Timer and the Passage Integrator are no part of it either. -/
theorem blocks_moves (s : State) (l : LinkControl) (rc : RateControl) (w : WheelTimer) (p : PassageIntegrator) :
    AsmMoves s { s with link := l, rc := rc, wheel := w, pass := p } := .of_same rfl

theorem QueueFrame.asm {s t : State} (h : QueueFrame s t) : t.asm = s.asm := by
  obtain ⟨_, _, _, _, rfl⟩ := h
  rfl

theorem QueueFrame.moves {s t : State} (h : QueueFrame s t) : AsmMoves s t := .of_same h.asm

/-! ### Hand-overs, decisions and contributions -/

theorem handAxle_moves (a : ConsensusAxle) (s : State) : AsmMoves s (handAxle a s) :=
  (table_moves s _).tail (.takes a _)

theorem handEntry_moves (i : Fin 16) (a : ConsensusAxle) (s : State) : AsmMoves s (handEntry i a s) :=
  (table_moves s _).trans (handAxle_moves a _)

theorem handStep_moves {s t : State} (h : handStep s = some t) : AsmMoves s t := by
  unfold handStep at h
  split at h
  · split at h
    · cases h
      exact handEntry_moves _ _ s
    · cases h
    · cases h
  · split at h
    · cases h
      exact handAxle_moves _ s
    · cases h

theorem handRun_moves (n : Nat) (s : State) : AsmMoves s (handRun n s) := by
  induction n generalizing s with
  | zero => exact .refl
  | succ n ih =>
    unfold handRun
    split
    · exact .refl
    · exact (handStep_moves ‹_›).trans (ih _)

theorem handChain_moves (s : State) : AsmMoves s (handChain s) := handRun_moves _ s

theorem cancelFrame_asm (id : Nat) (s : State) : (cancelFrame id s).asm = s.asm := by
  obtain ⟨_, h⟩ := cancelFrame_frame id s
  rw [h]

theorem takeOwnSlip_asm (r : Option Bool) (s : State) : (takeOwnSlip r s).asm = s.asm := by
  unfold takeOwnSlip
  split
  · rfl
  · split
    · split
      · split
        · rfl
        · obtain ⟨_, h⟩ := cancelAxles_frame { s with train := { s.train with slips := 3, standing := .desync } }
          rw [h]
      · rfl
    · rfl

theorem decideEntry_asm (i : Fin 16) (c : Collecting) (t : Trigger) (s : State) :
    (decideEntry i c t s).asm = s.asm := takeOwnSlip_asm _ (entryDecided i c t s)

theorem decideEntry_moves (i : Fin 16) (c : Collecting) (t : Trigger) (s : State) :
    AsmMoves s (decideEntry i c t s) := .of_same (decideEntry_asm i c t s)

theorem forcedStep_moves (s : State) : AsmMoves s (forcedStep s) := by
  unfold forcedStep
  split
  · exact handAxle_moves _ s
  · split
    · exact (decideEntry_moves _ _ _ s).trans (handEntry_moves _ _ _)
    · exact handEntry_moves _ _ s
    · exact .refl

theorem forceAdvance_moves (n a : Nat) (s : State) : AsmMoves s (forceAdvance n a s) := by
  induction n generalizing s with
  | zero => exact .refl
  | succ n ih =>
    unfold forceAdvance
    split
    · exact (forcedStep_moves s).trans ((handChain_moves _).trans (ih _))
    · exact .refl

theorem handUpTo_moves (n last : Nat) (s : State) : AsmMoves s (handUpTo n last s) := by
  induction n generalizing s with
  | zero => exact .refl
  | succ n ih =>
    unfold handUpTo
    split
    · exact (forcedStep_moves s).trans (ih _)
    · exact .refl

theorem storeAt_moves (i : Fin 16) (c : Collecting) (p : Pos) (q : Partial) (s : State) :
    AsmMoves s (storeAt i c p q s) := by
  unfold storeAt
  dsimp only
  split
  · exact (decideEntry_moves _ _ _ s).trans (handChain_moves _)
  · exact .of_same rfl

theorem storeInWindow_moves (p : Pos) (q : Partial) (s : State) : AsmMoves s (storeInWindow p q s) := by
  unfold storeInWindow
  split
  · split
    · exact storeAt_moves _ _ _ _ s
    · exact .refl
    · exact .refl
  · split
    · exact .refl
    · exact (table_moves s _).trans (storeAt_moves _ _ _ _ _)

theorem takeContribution_moves (p : Pos) (q : Partial) (s : State) : AsmMoves s (takeContribution p q s) := by
  unfold takeContribution
  split
  · split
    · exact .refl
    · exact (forceAdvance_moves _ _ s).trans (storeInWindow_moves _ _ _)
  · exact .refl

theorem deadlineExpiry_moves (i : Fin 16) (s : State) : AsmMoves s (deadlineExpiry i s) := by
  unfold deadlineExpiry
  split
  · split
    · exact (decideEntry_moves _ _ _ s).trans (handChain_moves _)
    · exact .refl
  · exact .refl
  · exact .refl

/-! ### Trains -/

theorem openTrain_moves (d : Direction) (st : Standing) (n : Nat) (s : State) : AsmMoves s (openTrain d st n s) :=
  (AsmMove.opens (by rw [openTrain_eq])).moves

theorem restartClose_moves (s : State) : AsmMoves s (restartClose s) := .of_same rfl

theorem trainTakesDetector_moves (d : Direction) (s : State) : AsmMoves s (trainTakesDetector d s) := by
  unfold trainTakesDetector
  split
  · split
    · exact (openTrain_moves d s.openStanding 1 s).trans ((offer_frame .train _ _ _).moves.tail (.same rfl))
    · exact restartClose_moves s
    · exact restartClose_moves s
  · exact .refl

/-- An abandonment cuts the table and closes the vehicle (R105, R135, R164). -/
theorem enterAbandoned_moves (r : Nat) (s : State) : AsmMoves s (enterAbandoned r s) := by
  have hbegun : (abandonBegun s).asm = s.asm := by
    obtain ⟨_, h⟩ := abandonBegun_eq s
    rw [h]
  have hcut : AsmMoves s (freeAll (abandonCut r s)) :=
    (AsmMoves.of_same hbegun).trans ((handUpTo_moves _ _ _).tail (.same rfl))
  rw [enterAbandoned_eq]
  exact (hcut.tail (.closes _ _)).tail (.same rfl)

theorem abandonAnnounced_moves (r : Nat) (s : State) : AsmMoves s (abandonAnnounced r s) :=
  (offer_frame _ _ _ s).moves.trans (enterAbandoned_moves r _)

theorem closeFlush_moves (n : Nat) (s : State) : AsmMoves s (closeFlush n s) := by
  unfold closeFlush
  split
  · exact (handUpTo_moves _ _ s).tail (.closes _ _)
  · exact .refl
  · exact .refl

/-- A close flushes the table, which closes the vehicle (R104, R134, R161). -/
theorem closeTimerExpiry_moves (s : State) : AsmMoves s (closeTimerExpiry s) := by
  have hbegun : (closeBegun s).asm = s.asm := by
    obtain ⟨_, h⟩ := closeBegun_eq s
    rw [h]
  unfold closeTimerExpiry
  split
  · rw [closeTrain_eq]
    exact ((AsmMoves.of_same hbegun).trans (closeFlush_moves _ _)).tail (.same rfl)
  · exact .refl

theorem cancelOpen_asm (s : State) : (cancelOpen s).asm = s.asm := by
  unfold cancelOpen
  split
  · rfl
  · exact cancelFrame_asm _ s

theorem takeTrainOpen_moves (f : TrainFrame) (s : State) : AsmMoves s (takeTrainOpen f s) := by
  unfold takeTrainOpen
  split
  · split
    · exact openTrain_moves _ _ _ s
    · split
      · exact .of_same (cancelOpen_asm s)
      · exact abandonAnnounced_moves _ s
    · exact .refl
  · exact .refl

theorem takeTrainReversal_moves (f : TrainFrame) (s : State) : AsmMoves s (takeTrainReversal f s) := by
  unfold takeTrainReversal
  split
  · exact enterAbandoned_moves _ s
  · exact .refl

theorem keepClose_asm (f : TrainFrame) (s : State) : (keepClose f s).asm = s.asm := by
  unfold keepClose
  split <;> rfl

theorem answerClose_asm (f : TrainFrame) (s : State) : (answerClose f s).asm = s.asm := by
  unfold answerClose
  split
  · rfl
  · split
    · exact cancelFrame_asm _ s
    · rfl

theorem takeTrainClose_moves (f : TrainFrame) (s : State) : AsmMoves s (takeTrainClose f s) := by
  unfold takeTrainClose
  split
  · split
    · exact .of_same (answerClose_asm f s)
    · exact .of_same (keepClose_asm f s)
    · exact .of_same (keepClose_asm f s)
  · exact .refl

theorem trainTakesAxle_moves (q : Partial) (s : State) : AsmMoves s (trainTakesAxle q s) := by
  unfold trainTakesAxle
  split
  · split
    · split
      · exact openTrain_moves _ _ _ s
      · exact openTrain_moves _ _ _ s
    · exact restartClose_moves s
    · exact restartClose_moves s
  · exact .refl

/-! ### Detector events -/

theorem handOn_moves (q : Partial) (s : State) : AsmMoves s (handOn q s) := by
  unfold handOn
  split
  · exact (offer_frame _ _ _ s).moves.trans (takeContribution_moves _ _ _)
  · exact .refl

theorem endOpenDwell_moves (s : State) : AsmMoves s (endOpenDwell s) := by
  unfold endOpenDwell
  split
  · exact (blocks_moves s _ _ _ _).trans (handOn_moves _ _)
  · exact .refl

theorem takeExit_moves (s : State) : AsmMoves s (takeExit s) := by
  unfold takeExit
  split
  · exact (blocks_moves s _ _ _ _).trans (handOn_moves _ _)
  · exact .refl

theorem takeEntry_moves (s : State) : AsmMoves s (takeEntry s) := by
  unfold takeEntry
  split
  · exact abandonAnnounced_moves _ s
  · exact (endOpenDwell_moves s).trans ((blocks_moves _ _ _ _ _).trans (handChain_moves _))

theorem wheelTakes_moves (d : Detector) (dir : Direction) (s : State) : AsmMoves s (wheelTakes d dir s) := by
  unfold wheelTakes
  split
  · split
    · split
      · exact takeEntry_moves s
      · exact takeExit_moves s
    · exact abandonAnnounced_moves _ s
  · exact .refl

theorem detectorEvent_moves (d : Detector) (dir : Direction) (s : State) : AsmMoves s (detectorEvent d dir s) := by
  have hreported : AsmMoves s (reported d s) := .of_same rfl
  unfold detectorEvent
  split
  · exact hreported.trans ((trainTakesDetector_moves dir _).trans (wheelTakes_moves d dir _))
  · exact .refl

/-! ### Commands that leave the Vehicle Assembler -/

@[simp] theorem notify_asm (f : QFrame) (n : Notice) (s : State) : (notify f n s).asm = s.asm :=
  (notify_frame f n s).asm

@[simp] theorem offerPresence_asm (s : State) : (offerPresence s).asm = s.asm := (offerPresence_frame s).asm

@[simp] theorem setFault_asm (f : StationFault) (s : State) : (setFault f s).asm = s.asm := (setFault_frame f s).asm

@[simp] theorem wakeRate_asm (s : State) : (wakeRate s).asm = s.asm := by
  unfold wakeRate
  split <;> rfl

@[simp] theorem takeWake_asm (w : WakeSource) (s : State) : (takeWake w s).asm = s.asm := by
  unfold takeWake
  split <;> simp

theorem quietTimerExpiry_asm (s : State) : (quietTimerExpiry s).asm = s.asm := by
  unfold quietTimerExpiry quietExpired
  split
  · split
    · simp
    · split <;> rfl
  · rfl

theorem dormantEntryComplete_asm (s : State) : (dormantEntryComplete s).asm = s.asm := by
  unfold dormantEntryComplete
  split <;> rfl

theorem refreshTimerExpiry_asm (s : State) : (refreshTimerExpiry s).asm = s.asm := by
  unfold refreshTimerExpiry
  split <;> simp

theorem settlingComplete_asm (s : State) : (settlingComplete s).asm = s.asm := by
  unfold settlingComplete
  split <;> rfl

theorem debounceHoldEnd_asm (d : Detector) (s : State) : (debounceHoldEnd d s).asm = s.asm := by
  unfold debounceHoldEnd
  split <;> rfl

@[simp] theorem judgeIdle_asm (p : Pair) (s : State) : (judgeIdle p s).asm = s.asm := by
  unfold judgeIdle
  split <;> simp

theorem capturePair_asm (p : Pair) (s : State) : (capturePair p s).asm = s.asm := by
  unfold capturePair
  split
  · rfl
  · dsimp only
    split
    · rfl
    · split <;> simp

theorem trackPair_asm (k : Calibrate) (p : Pair) (s : State) : (trackPair k p s).asm = s.asm := by
  unfold trackPair
  dsimp only
  split <;> simp

@[simp] theorem zeroTake_asm (p : Pair) (s : State) : (zeroTake p s).asm = s.asm := by
  unfold zeroTake
  split
  · rfl
  · split
    · split
      · exact capturePair_asm p s
      · exact trackPair_asm _ p s
    · rfl

theorem producePair_asm (l r : Sample) (s : State) : (producePair l r s).asm = s.asm := by
  unfold producePair passTake
  simp

theorem samplePair_asm (l r : Sample) (s : State) : (samplePair l r s).asm = s.asm := by
  unfold samplePair
  split
  · exact producePair_asm l r s
  · rfl

theorem zeroCaptureComplete_asm (l r : Sample) (s : State) : (zeroCaptureComplete l r s).asm = s.asm := by
  unfold zeroCaptureComplete
  split
  · exact producePair_asm l r s
  · rfl

theorem attemptStart_asm (n : Nat) (s : State) : (attemptStart n s).asm = s.asm := by
  unfold attemptStart
  split
  · dsimp only
    split
    · rfl
    · split <;> rfl
  · rfl

theorem otherPartyStartMark_asm (n : Nat) (s : State) : (otherPartyStartMark n s).asm = s.asm := by
  unfold otherPartyStartMark
  split
  · split <;> rfl
  · rfl

theorem labelSentUnbeaten_asm (s : State) : (labelSentUnbeaten s).asm = s.asm := by
  unfold labelSentUnbeaten
  split <;> rfl

theorem arbitrationLost_asm (s : State) : (arbitrationLost s).asm = s.asm := by
  unfold arbitrationLost
  split <;> rfl

theorem failAttempt_asm (f : QFrame) (s : State) : (failAttempt f s).asm = s.asm := by
  unfold failAttempt discardFrame
  split <;> simp

theorem senderError_asm (n : Nat) (s : State) : (senderError n s).asm = s.asm := by
  unfold senderError
  split
  · dsimp only
    split
    · rfl
    · split
      · rfl
      · exact failAttempt_asm _ _
  · rfl

theorem attemptComplete_asm (s : State) : (attemptComplete s).asm = s.asm := by
  unfold attemptComplete sentFrame
  split
  · dsimp only
    split <;> simp
  · rfl

theorem frameBroken_asm (c : BreakCause) (n : Nat) (s : State) : (frameBroken c n s).asm = s.asm := by
  unfold frameBroken
  split <;> rfl

/-! ### Settings and resets -/

theorem takeCalibrate_asm (f : RxFrame) (s : State) : (takeCalibrate f s).asm = s.asm := by
  unfold takeCalibrate offerCalibrate
  split
  · split
    · exact offerPresence_asm _
    · exact offerPresence_asm _
  · rfl

theorem takeSite_asm (f : RxFrame) (s : State) : (takeSite f s).asm = s.asm := by
  unfold takeSite
  split
  · split
    · exact offerPresence_asm _
    · rw [acceptSite, resizeQuiet_eq, offerPresence_asm]
  · rfl

theorem powerOn_moves (st : Straps) (s : State) : AsmMoves s (powerOn st s) := by
  unfold powerOn
  dsimp only
  split
  · exact .of_reset rfl
  · exact .of_reset (offerPresence_asm _)

theorem takeRestartFrame_moves (f : RxFrame) (s : State) : AsmMoves s (takeRestartFrame f s) := by
  unfold takeRestartFrame
  split
  · exact .of_reset (by rw [takeRestart_eq, offerPresence_asm])
  · exact .refl

/-! ### Received frames -/

theorem checkFrame_moves (k : Kind) (f : RxFrame) {deliver : State → State} (hd : ∀ u, AsmMoves u (deliver u))
    (s : State) : AsmMoves s (checkFrame k f deliver s) := by
  unfold checkFrame
  split
  · split
    · exact .of_same (setFault_asm _ s)
    · exact (blocks_moves s _ _ _ _).trans (hd _)
  · exact .refl

/-- A received frame does what its delivery does, or leaves the Vehicle Assembler (R68, R70, R71). -/
theorem receiveFrame_moves (k : Kind) (f : RxFrame) {deliver : State → State} (hd : ∀ u, AsmMoves u (deliver u))
    (s : State) : AsmMoves s (receiveFrame k f deliver s) := by
  have hmark : AsmMoves s (otherPartyStartMark 0 s) := .of_same (otherPartyStartMark_asm 0 s)
  unfold receiveFrame
  dsimp only
  split
  · split
    · exact hmark.trans ((blocks_moves _ _ _ _ _).trans (checkFrame_moves k f hd _))
    · exact hmark.trans (blocks_moves _ _ _ _ _)
  · exact hmark

theorem rosterTake_moves (k : Kind) (f : RxFrame) (s : State) : AsmMoves s (rosterTake k f s) := .of_same rfl

/-- A station frame reaches the Roster and the other blocks in either order (R72, R83). -/
theorem deliverStation_moves (k : Kind) (f : RxFrame) {others : State → State} (ho : ∀ u, AsmMoves u (others u))
    (s : State) : AsmMoves s (deliverStation k f others s) := by
  unfold deliverStation
  split
  · exact (ho s).trans (rosterTake_moves k f _)
  · exact (rosterTake_moves k f s).trans (ho _)

theorem stationRow_moves (k : Kind) (f : RxFrame) {others : State → State} (ho : ∀ u, AsmMoves u (others u))
    (s : State) : AsmMoves s (receiveFrame k f (deliverStation k f others) s) :=
  receiveFrame_moves k f (deliverStation_moves k f ho) s

theorem takeTrainFrame_moves (n : Nat) (f : RxFrame) {take : TrainFrame → State → State}
    (ht : ∀ g u, AsmMoves u (take g u)) (s : State) : AsmMoves s (takeTrainFrame n f take s) := by
  unfold takeTrainFrame
  dsimp only
  split
  · exact ht _ s
  · exact .refl

theorem takeAxleFrame_moves (f : RxFrame) (s : State) : AsmMoves s (takeAxleFrame f s) :=
  (trainTakesAxle_moves _ s).trans (takeContribution_moves _ _ _)

theorem takeVehicleFrame_asm (f : RxFrame) (s : State) : (takeVehicleFrame f s).asm = s.asm := by
  unfold takeVehicleFrame
  split
  · exact (takePeerRecord_frame _ s).asm
  · rfl

/-! ### Every command, every step -/

theorem effect_moves (c : Instr) (s : State) : AsmMoves s (effect c s) := by
  cases c with
  | powerOnReset pos cnt sec => exact powerOn_moves _ s
  | samplePair l r => exact .of_same (samplePair_asm l r s)
  | zeroCaptureComplete l r => exact .of_same (zeroCaptureComplete_asm l r s)
  | settlingComplete => exact .of_same (settlingComplete_asm s)
  | quietTimerExpiry => exact .of_same (quietTimerExpiry_asm s)
  | dormantEntryComplete => exact .of_same (dormantEntryComplete_asm s)
  | refreshTimerExpiry => exact .of_same (refreshTimerExpiry_asm s)
  | wakeEvent w => exact .of_same (takeWake_asm w s)
  | detectorEvent d dir => exact detectorEvent_moves d dir s
  | debounceHoldEnd d => exact .of_same (debounceHoldEnd_asm d s)
  | closeTimerExpiry => exact closeTimerExpiry_moves s
  | deadlineExpiry i => exact deadlineExpiry_moves i s
  | attemptStart n => exact .of_same (attemptStart_asm n s)
  | arbitrationLost => exact .of_same (arbitrationLost_asm s)
  | senderError n => exact .of_same (senderError_asm n s)
  | attemptComplete => exact .of_same (attemptComplete_asm s)
  | frameBroken b n => exact .of_same (frameBroken_asm b n s)
  | restartFrame f => exact receiveFrame_moves _ f (takeRestartFrame_moves f) s
  | calibrateFrame f => exact receiveFrame_moves _ f (fun u => .of_same (takeCalibrate_asm f u)) s
  | siteFrame f => exact receiveFrame_moves _ f (fun u => .of_same (takeSite_asm f u)) s
  | trainOpenFrame f => exact stationRow_moves _ f (takeTrainFrame_moves _ f takeTrainOpen_moves) s
  | trainReversalFrame f => exact stationRow_moves _ f (takeTrainFrame_moves _ f takeTrainReversal_moves) s
  | trainCloseFrame f => exact stationRow_moves _ f (takeTrainFrame_moves _ f takeTrainClose_moves) s
  | axleFrame f => exact stationRow_moves _ f (takeAxleFrame_moves f) s
  | vehicleFrame f => exact stationRow_moves _ f (fun u => .of_same (takeVehicleFrame_asm f u)) s
  | dissentFrame f => exact receiveFrame_moves _ f (rosterTake_moves _ f) s
  | presenceFrame f => exact receiveFrame_moves _ f (rosterTake_moves _ f) s
  | otherPartyStartMark n => exact .of_same (otherPartyStartMark_asm n s)
  | labelSentUnbeaten => exact .of_same (labelSentUnbeaten_asm s)

/-- Settles O12: a command moves the Vehicle Assembler as `AsmMove` lists, and each move keeps the shape. -/
theorem assemblerInvKept : Obligations.AssemblerInvKept :=
  stepKeeps_of_effect (fun _ _ h => h) (fun _ h => h) fun c s => (effect_moves c s).inv

end Sys2Proof.Machine
end

section
/-! The Publication Table's bound and its one entry for each ordinal. Both are facts about the list of its ordinals,
which three things change: a new ordinal where there is room, one in place of the lowest, and the clearing of the
table. -/

namespace Sys2Proof.Machine

/-! ### What can happen to the table's ordinals -/

/-- The vehicle ordinals that have an entry, in the order the entries were created (R141). -/
def ordinalsOf (es : List PubEntry) : List Nat := es.map PubEntry.ordinal

theorem length_ordinalsOf (es : List PubEntry) : (ordinalsOf es).length = es.length := List.length_map _

theorem ordinalsOf_append (es : List PubEntry) (e : PubEntry) : ordinalsOf (es ++ [e]) = ordinalsOf es ++ [e.ordinal] :=
  List.map_append

/-- One change of the table's ordinals. -/
inductive PubMove : List Nat → List Nat → Prop where
  /-- A new ordinal takes a FREE slot (R143). -/
  | appends {os : List Nat} {v : Nat} (room : os.length < 16) (new : v ∉ os) : PubMove os (os ++ [v])
  /-- With 16 entries held a new ordinal takes the place of the lowest (R143). -/
  | recycles {os : List Nat} {v : Nat} (full : 16 ≤ os.length) (new : v ∉ os) :
      PubMove os (os.filter (· != minOf os) ++ [v])
  /-- A train opens, power-on reset or RESTART (R142). -/
  | clears (os : List Nat) : PubMove os []

/-- The ordinals of `gs` come from those of `es` by any number of such changes. -/
def PubFollows (gs es : List PubEntry) : Prop := Relation.ReflTransGen PubMove (ordinalsOf es) (ordinalsOf gs)

theorem PubFollows.refl (es : List PubEntry) : PubFollows es es := Relation.ReflTransGen.refl

theorem PubFollows.trans {hs gs es : List PubEntry} (h : PubFollows hs gs) (g : PubFollows gs es) : PubFollows hs es :=
  Relation.ReflTransGen.trans g h

theorem PubMove.follows {gs es : List PubEntry} (h : PubMove (ordinalsOf es) (ordinalsOf gs)) : PubFollows gs es :=
  Relation.ReflTransGen.single h

theorem PubFollows.of_same {gs es : List PubEntry} (h : ordinalsOf gs = ordinalsOf es) : PubFollows gs es := by
  rw [PubFollows, h]

theorem PubFollows.of_eq {gs es : List PubEntry} (h : gs = es) : PubFollows gs es := .of_same (congrArg _ h)

/-- An emptied table follows any (R142). -/
theorem pubFollows_nil (es : List PubEntry) : PubFollows [] es := PubMove.follows (.clears _)

/-! ### The bound and the distinctness -/

/-- At most 16 ordinals, no two the same (R141). -/
structure OrdinalsFit (os : List Nat) : Prop where
  bound : os.length ≤ 16
  distinct : os.Nodup

theorem publicationInv_iff (es : List PubEntry) : PublicationInv es ↔ OrdinalsFit (ordinalsOf es) := by
  have hlen := length_ordinalsOf es
  exact ⟨fun h => ⟨hlen.trans_le h.bound, h.distinct⟩, fun h => ⟨hlen.symm.trans_le h.bound, h.distinct⟩⟩

theorem minOf_mem {os : List Nat} (h : os ≠ []) : minOf os ∈ os := by
  cases os with
  | nil => contradiction
  | cons v os => exact foldl_choice_mem min_choice os v

/-- Recycling gives up at least one ordinal, the lowest (R143). -/
theorem length_filter_minOf_lt {os : List Nat} (h : os ≠ []) : (os.filter (· != minOf os)).length < os.length :=
  List.length_filter_lt_length_iff_exists.2 ⟨minOf os, minOf_mem h, by simp⟩

theorem ordinalsFit_append {os : List Nat} {v : Nat} (h : os.Nodup) (room : os.length < 16) (new : v ∉ os) :
    OrdinalsFit (os ++ [v]) where
  bound := by rwa [List.length_append]
  distinct := h.append (List.nodup_singleton v) (List.disjoint_singleton.2 new)

theorem PubMove.fit {os ps : List Nat} (m : PubMove os ps) (h : OrdinalsFit os) : OrdinalsFit ps := by
  cases m with
  | appends room new => exact ordinalsFit_append h.distinct room new
  | recycles full new =>
    have hroom := length_filter_minOf_lt (List.ne_nil_of_length_pos (Nat.lt_of_lt_of_le (by decide) full))
    exact ordinalsFit_append (h.distinct.filter _) (Nat.lt_of_lt_of_le hroom h.bound) fun hv =>
      new (List.mem_of_mem_filter hv)
  | clears => exact ⟨Nat.zero_le _, List.nodup_nil⟩

theorem PubFollows.inv {gs es : List PubEntry} (m : PubFollows gs es) (h : PublicationInv es) : PublicationInv gs := by
  rw [publicationInv_iff] at h ⊢
  unfold PubFollows at m
  generalize ordinalsOf gs = ps at m ⊢
  induction m with
  | refl => exact h
  | tail _ m ih => exact m.fit ih

/-! ### Entries -/

/-- An ordinal without an entry is a new one. -/
theorem findPub_eq_none {v : Nat} {es : List PubEntry} (h : findPub v es = none) : v ∉ ordinalsOf es := by
  intro hv
  obtain ⟨x, hx, hxv⟩ := List.mem_map.1 hv
  exact List.find?_eq_none.1 h x hx (by simp [hxv])

/-- Giving up the entry of the lowest ordinal gives up that ordinal (R143). -/
theorem ordinalsOf_recycled (es : List PubEntry) :
    ordinalsOf (es.filter fun x => x.ordinal != lowestPub es) =
      (ordinalsOf es).filter (· != minOf (ordinalsOf es)) := by
  unfold ordinalsOf
  rw [List.filter_map]
  rfl

theorem createPub_follows {e : PubEntry} {es : List PubEntry} (new : e.ordinal ∉ ordinalsOf es) :
    PubFollows (createPub e es) es := by
  have hlen := length_ordinalsOf es
  refine PubMove.follows ?_
  unfold createPub
  split
  · rw [ordinalsOf_append]
    exact .appends (hlen.trans_lt ‹_›) new
  · rw [ordinalsOf_append, ordinalsOf_recycled]
    exact .recycles (hlen ▸ Nat.not_lt.1 ‹_›) new

theorem setPub_follows (v : Nat) (st : PubState) (es : List PubEntry) : PubFollows (setPub v st es) es := by
  refine .of_same ?_
  rw [ordinalsOf, setPub, List.map_map]
  refine List.map_congr_left fun e _ => ?_
  dsimp only [Function.comp_apply]
  split <;> rfl

/-! ### Notices, offers, cancellations, faults -/

theorem noticeEntry_follows (id : Nat) (n : Notice) (es : List PubEntry) :
    PubFollows (es.map (noticeEntry id n)) es := by
  refine .of_same ?_
  rw [ordinalsOf, List.map_map]
  exact List.map_congr_left fun e _ => noticeEntry_ordinal id n e

theorem notify_pubFollows (f : QFrame) (n : Notice) (s : State) : PubFollows (notify f n s).pub s.pub := by
  rw [notify_eq]
  dsimp only
  split
  · exact noticeEntry_follows f.id n s.pub
  · exact .refl _

theorem offer_pubFollows (k : Kind) (seq : BitVec 6) (p : List Byte) (s : State) :
    PubFollows (offer k seq p s).1.pub s.pub := by
  unfold offer
  split
  · exact .refl _
  · split
    · exact .refl _
    · exact notify_pubFollows _ _ _

theorem offerPresence_pubFollows (s : State) : PubFollows (offerPresence s).pub s.pub := offer_pubFollows _ _ _ s

theorem setFault_pubFollows (f : StationFault) (s : State) : PubFollows (setFault f s).pub s.pub := by
  unfold setFault
  dsimp only
  split
  · exact offerPresence_pubFollows _
  · exact .refl _

theorem cancelFrame_pub (id : Nat) (s : State) : (cancelFrame id s).pub = s.pub := by
  obtain ⟨_, h⟩ := cancelFrame_frame id s
  rw [h]

theorem cancelAxles_pub (s : State) : (cancelAxles s).pub = s.pub := by
  obtain ⟨_, h⟩ := cancelAxles_frame s
  rw [h]

/-! ### Records -/

theorem dissentFrom_pubFollows (v : Nat) (r : VehicleRecord) (peer : PeerRecord) (s : State) :
    PubFollows (dissentFrom v r peer s).pub s.pub := by
  rw [dissentFrom_eq]
  exact (setPub_follows _ _ _).trans (offer_pubFollows _ _ _ s)

/-- An own record with no entry makes one (R143, R145). -/
theorem ownRecordNew_pubFollows {r : VehicleRecord} {s : State} (new : r.ordinal ∉ ordinalsOf s.pub) :
    PubFollows (ownRecordNew r s).pub s.pub := by
  have hoffer := offer_pubFollows .vehicle (seqOf r.ordinal) (vehiclePayload r)
    { s with pub := createPub ⟨r.ordinal, .dropped r none⟩ s.pub }
  have hcreated := hoffer.trans (createPub_follows (e := ⟨r.ordinal, .dropped r none⟩) new)
  unfold ownRecordNew offerVehicle
  dsimp only
  split
  all_goals
    rename_i heq
    rw [heq] at hcreated
  · exact (setPub_follows _ _ _).trans hcreated
  · exact hcreated

theorem takeOwnRecord_pubFollows (r : VehicleRecord) (s : State) : PubFollows (takeOwnRecord r s).pub s.pub := by
  unfold takeOwnRecord
  split
  · exact ownRecordNew_pubFollows (findPub_eq_none ‹_›)
  · split
    · split
      · exact setPub_follows _ _ _
      · exact dissentFrom_pubFollows _ _ _ s
    all_goals exact .refl _

theorem convertQueued_pubFollows (own : VehicleRecord) (ref : Nat) (peer : PeerRecord) (s : State) :
    PubFollows (convertQueued own ref peer s).pub s.pub := by
  have hcancel := PubFollows.of_eq (cancelFrame_pub ref s)
  unfold convertQueued
  dsimp only
  split
  · exact (setPub_follows _ _ _).trans hcancel
  · exact (dissentFrom_pubFollows _ _ _ _).trans hcancel

/-- A peer's record with no entry makes one (R143, R148). -/
theorem takePeerRecord_pubFollows (peer : PeerRecord) (s : State) : PubFollows (takePeerRecord peer s).pub s.pub := by
  unfold takePeerRecord
  split
  · exact .refl _
  · split
    · exact createPub_follows (findPub_eq_none ‹_›)
    · split
      · exact convertQueued_pubFollows _ _ _ s
      all_goals exact .refl _

/-! ### Vehicles closed, axles taken -/

theorem closeVehicle_pubFollows (closing : VehicleFlags) (s : State) :
    PubFollows (closeVehicle closing s).pub s.pub := by
  unfold closeVehicle
  split
  · exact .refl _
  · exact takeOwnRecord_pubFollows _ _

theorem appendAxle_pubFollows (v : OpenVehicle) (g : List Nat) (u : Bool) (a : VehicleAxle) (s : State) :
    PubFollows (appendAxle v g u a s).pub s.pub := by
  unfold appendAxle
  dsimp only
  split
  · exact closeVehicle_pubFollows _ _
  · exact .refl _

theorem splitAt_pubFollows (a : VehicleAxle) (s : State) : PubFollows (splitAt a s).pub s.pub :=
  closeVehicle_pubFollows _ s

theorem takeBogie_pubFollows (v : OpenVehicle) (a : VehicleAxle) (s : State) :
    PubFollows (takeBogie v a s).pub s.pub := by
  unfold takeBogie
  split
  · exact appendAxle_pubFollows _ _ _ _ s
  · split
    · exact appendAxle_pubFollows _ _ _ _ s
    · exact splitAt_pubFollows _ s

theorem takeBody_pubFollows (v : OpenVehicle) (a : VehicleAxle) (s : State) :
    PubFollows (takeBody v a s).pub s.pub := by
  unfold takeBody
  split
  · exact appendAxle_pubFollows _ _ _ _ s
  · exact splitAt_pubFollows _ s

theorem takeAxle_pubFollows (a : ConsensusAxle) (s : State) : PubFollows (takeAxle a s).pub s.pub := by
  unfold takeAxle
  dsimp only
  split
  · exact .refl _
  · split
    · exact takeBogie_pubFollows _ _ s
    · exact takeBody_pubFollows _ _ s
    · exact closeVehicle_pubFollows _ s
    · exact closeVehicle_pubFollows _ s

/-! ### Hand-overs, decisions and contributions -/

theorem handAxle_pubFollows (a : ConsensusAxle) (s : State) : PubFollows (handAxle a s).pub s.pub :=
  takeAxle_pubFollows a _

theorem handEntry_pubFollows (i : Fin 16) (a : ConsensusAxle) (s : State) : PubFollows (handEntry i a s).pub s.pub :=
  takeAxle_pubFollows a _

theorem handStep_pubFollows {s t : State} (h : handStep s = some t) : PubFollows t.pub s.pub := by
  unfold handStep at h
  split at h
  · split at h
    · cases h
      exact handEntry_pubFollows _ _ s
    · cases h
    · cases h
  · split at h
    · cases h
      exact handAxle_pubFollows _ s
    · cases h

theorem handRun_pubFollows (n : Nat) (s : State) : PubFollows (handRun n s).pub s.pub := by
  induction n generalizing s with
  | zero => exact .refl _
  | succ n ih =>
    unfold handRun
    split
    · exact .refl _
    · exact (ih _).trans (handStep_pubFollows ‹_›)

theorem handChain_pubFollows (s : State) : PubFollows (handChain s).pub s.pub := handRun_pubFollows _ s

theorem takeOwnSlip_pub (r : Option Bool) (s : State) : (takeOwnSlip r s).pub = s.pub := by
  unfold takeOwnSlip
  split
  · rfl
  · split
    · split
      · split
        · rfl
        · exact cancelAxles_pub _
      · rfl
    · rfl

theorem decideEntry_pub (i : Fin 16) (c : Collecting) (t : Trigger) (s : State) :
    (decideEntry i c t s).pub = s.pub := takeOwnSlip_pub _ (entryDecided i c t s)

theorem decideEntry_pubFollows (i : Fin 16) (c : Collecting) (t : Trigger) (s : State) :
    PubFollows (decideEntry i c t s).pub s.pub := .of_eq (decideEntry_pub i c t s)

theorem forcedStep_pubFollows (s : State) : PubFollows (forcedStep s).pub s.pub := by
  unfold forcedStep
  split
  · exact handAxle_pubFollows _ s
  · split
    · exact (handEntry_pubFollows _ _ _).trans (decideEntry_pubFollows _ _ _ s)
    · exact handEntry_pubFollows _ _ s
    · exact .refl _

theorem forceAdvance_pubFollows (n a : Nat) (s : State) : PubFollows (forceAdvance n a s).pub s.pub := by
  induction n generalizing s with
  | zero => exact .refl _
  | succ n ih =>
    unfold forceAdvance
    split
    · exact (ih _).trans ((handChain_pubFollows _).trans (forcedStep_pubFollows s))
    · exact .refl _

theorem handUpTo_pubFollows (n last : Nat) (s : State) : PubFollows (handUpTo n last s).pub s.pub := by
  induction n generalizing s with
  | zero => exact .refl _
  | succ n ih =>
    unfold handUpTo
    split
    · exact (ih _).trans (forcedStep_pubFollows s)
    · exact .refl _

theorem storeAt_pubFollows (i : Fin 16) (c : Collecting) (p : Pos) (q : Partial) (s : State) :
    PubFollows (storeAt i c p q s).pub s.pub := by
  unfold storeAt
  dsimp only
  split
  · exact (handChain_pubFollows _).trans (decideEntry_pubFollows _ _ _ s)
  · exact .refl _

theorem storeInWindow_pubFollows (p : Pos) (q : Partial) (s : State) : PubFollows (storeInWindow p q s).pub s.pub := by
  unfold storeInWindow
  split
  · split
    · exact storeAt_pubFollows _ _ _ _ s
    · exact .refl _
    · exact .refl _
  · split
    · exact .refl _
    · exact storeAt_pubFollows _ _ _ _ _

theorem takeContribution_pubFollows (p : Pos) (q : Partial) (s : State) :
    PubFollows (takeContribution p q s).pub s.pub := by
  unfold takeContribution
  split
  · split
    · exact .refl _
    · exact (storeInWindow_pubFollows _ _ _).trans (forceAdvance_pubFollows _ _ s)
  · exact .refl _

theorem deadlineExpiry_pubFollows (i : Fin 16) (s : State) : PubFollows (deadlineExpiry i s).pub s.pub := by
  unfold deadlineExpiry
  split
  · split
    · exact (handChain_pubFollows _).trans (decideEntry_pubFollows _ _ _ s)
    · exact .refl _
  · exact .refl _
  · exact .refl _

/-! ### Trains -/

/-- A train opens on an empty table (R142). -/
theorem openTrain_pub (d : Direction) (st : Standing) (n : Nat) (s : State) : (openTrain d st n s).pub = [] := by
  rw [openTrain_eq]

theorem openTrain_pubFollows (d : Direction) (st : Standing) (n : Nat) (s : State) :
    PubFollows (openTrain d st n s).pub s.pub := by
  rw [openTrain_pub]
  exact pubFollows_nil _

theorem trainTakesDetector_pubFollows (d : Direction) (s : State) : PubFollows (trainTakesDetector d s).pub s.pub := by
  unfold trainTakesDetector
  split
  · split
    · exact PubFollows.trans (offer_pubFollows _ _ _ _) (openTrain_pubFollows d s.openStanding 1 s)
    · exact .refl _
    · exact .refl _
  · exact .refl _

/-- An abandonment hands over what its cut keeps and closes the open vehicle (R105, R135, R164). -/
theorem enterAbandoned_pubFollows (r : Nat) (s : State) : PubFollows (enterAbandoned r s).pub s.pub := by
  have hcut : PubFollows (abandonCut r s).pub s.pub :=
    (handUpTo_pubFollows _ _ _).trans (.of_eq (cancelAxles_pub (clearCounter (discardDwell s))))
  exact (closeVehicle_pubFollows _ (freeAll (abandonCut r s))).trans hcut

theorem abandonAnnounced_pubFollows (r : Nat) (s : State) : PubFollows (abandonAnnounced r s).pub s.pub :=
  (enterAbandoned_pubFollows r _).trans (offer_pubFollows _ _ _ s)

theorem closeFlush_pubFollows (n : Nat) (s : State) : PubFollows (closeFlush n s).pub s.pub := by
  unfold closeFlush
  split
  · exact (closeVehicle_pubFollows _ _).trans (handUpTo_pubFollows _ _ s)
  · exact .refl _
  · exact .refl _

theorem formClose_pubFollows (s : State) : PubFollows (formClose s).pub s.pub := by
  by_cases h : s.closeAnswered
  · rw [formClose_withheld s h]
    exact .refl _
  · rw [formClose_offers s h]
    exact offer_pubFollows _ _ _ s

/-- A close hands over what its flush finds, closes the open vehicle and offers a TRAIN-CLOSE (R161). -/
theorem closeTrain_pubFollows (s : State) : PubFollows (closeTrain s).pub s.pub := by
  have hflush : PubFollows (closeFlush s.highestKnown (closeBegun s)).pub s.pub :=
    (closeFlush_pubFollows _ _).trans (.of_eq (cancelAxles_pub (discardDwell s)))
  rw [closeTrain_eq]
  exact (formClose_pubFollows _).trans hflush

theorem closeTimerExpiry_pubFollows (s : State) : PubFollows (closeTimerExpiry s).pub s.pub := by
  unfold closeTimerExpiry
  split
  · exact closeTrain_pubFollows s
  · exact .refl _

theorem cancelOpen_pub (s : State) : (cancelOpen s).pub = s.pub := by
  unfold cancelOpen
  split
  · rfl
  · exact cancelFrame_pub _ s

theorem takeTrainOpen_pubFollows (f : TrainFrame) (s : State) : PubFollows (takeTrainOpen f s).pub s.pub := by
  unfold takeTrainOpen
  split
  · split
    · exact openTrain_pubFollows _ _ _ s
    · split
      · exact .of_eq (cancelOpen_pub s)
      · exact abandonAnnounced_pubFollows _ s
    · exact .refl _
  · exact .refl _

theorem takeTrainReversal_pubFollows (f : TrainFrame) (s : State) : PubFollows (takeTrainReversal f s).pub s.pub := by
  unfold takeTrainReversal
  split
  · exact enterAbandoned_pubFollows _ s
  · exact .refl _

theorem answerClose_pub (f : TrainFrame) (s : State) : (answerClose f s).pub = s.pub := by
  unfold answerClose
  split
  · rfl
  · split
    · exact cancelFrame_pub _ s
    · rfl

theorem keepClose_pub (f : TrainFrame) (s : State) : (keepClose f s).pub = s.pub := by
  unfold keepClose
  split <;> rfl

theorem takeTrainClose_pub (f : TrainFrame) (s : State) : (takeTrainClose f s).pub = s.pub := by
  unfold takeTrainClose
  split
  · split
    · exact answerClose_pub f s
    · exact keepClose_pub f s
    · exact keepClose_pub f s
  · rfl

theorem trainTakesAxle_pubFollows (q : Partial) (s : State) : PubFollows (trainTakesAxle q s).pub s.pub := by
  unfold trainTakesAxle
  split
  · split
    · split
      · exact openTrain_pubFollows _ _ _ s
      · exact openTrain_pubFollows _ _ _ s
    · exact .refl _
    · exact .refl _
  · exact .refl _

/-! ### Detector events -/

theorem handOn_pubFollows (q : Partial) (s : State) : PubFollows (handOn q s).pub s.pub := by
  unfold handOn
  split
  · exact (takeContribution_pubFollows _ _ _).trans (offer_pubFollows _ _ _ s)
  · exact .refl _

theorem endOpenDwell_pubFollows (s : State) : PubFollows (endOpenDwell s).pub s.pub := by
  unfold endOpenDwell
  split
  · exact handOn_pubFollows _ _
  · exact .refl _

theorem takeEntry_pubFollows (s : State) : PubFollows (takeEntry s).pub s.pub := by
  unfold takeEntry
  split
  · exact abandonAnnounced_pubFollows _ s
  · exact (handChain_pubFollows _).trans (endOpenDwell_pubFollows s)

theorem takeExit_pubFollows (s : State) : PubFollows (takeExit s).pub s.pub := by
  unfold takeExit
  split
  · exact handOn_pubFollows _ _
  · exact .refl _

theorem wheelTakes_pubFollows (d : Detector) (dir : Direction) (s : State) :
    PubFollows (wheelTakes d dir s).pub s.pub := by
  unfold wheelTakes
  split
  · split
    · split
      · exact takeEntry_pubFollows s
      · exact takeExit_pubFollows s
    · exact abandonAnnounced_pubFollows _ s
  · exact .refl _

theorem detectorEvent_pubFollows (d : Detector) (dir : Direction) (s : State) :
    PubFollows (detectorEvent d dir s).pub s.pub := by
  unfold detectorEvent
  split
  · rw [acceptDetector_eq]
    exact (wheelTakes_pubFollows d dir _).trans (trainTakesDetector_pubFollows dir (reported d s))
  · exact .refl _

/-! ### Sample pairs and timers -/

theorem judgeIdle_pubFollows (p : Pair) (s : State) : PubFollows (judgeIdle p s).pub s.pub := by
  unfold judgeIdle
  split
  · exact setFault_pubFollows _ s
  · exact .refl _

theorem capturePair_pubFollows (p : Pair) (s : State) : PubFollows (capturePair p s).pub s.pub := by
  unfold capturePair
  split
  · exact .refl _
  · dsimp only
    split
    · exact .refl _
    · split
      · exact offerPresence_pubFollows _
      · exact .refl _

theorem trackPair_pubFollows (k : Calibrate) (p : Pair) (s : State) : PubFollows (trackPair k p s).pub s.pub := by
  unfold trackPair
  dsimp only
  split
  · exact setFault_pubFollows _ _
  · exact .refl _

theorem zeroTake_pubFollows (p : Pair) (s : State) : PubFollows (zeroTake p s).pub s.pub := by
  unfold zeroTake
  split
  · exact .refl _
  · split
    · split
      · exact capturePair_pubFollows p s
      · exact trackPair_pubFollows _ p s
    · exact .refl _

theorem producePair_pubFollows (l r : Sample) (s : State) : PubFollows (producePair l r s).pub s.pub :=
  (zeroTake_pubFollows _ _).trans (judgeIdle_pubFollows _ _)

theorem samplePair_pubFollows (l r : Sample) (s : State) : PubFollows (samplePair l r s).pub s.pub := by
  unfold samplePair
  split
  · exact producePair_pubFollows l r s
  · exact .refl _

theorem zeroCaptureComplete_pubFollows (l r : Sample) (s : State) :
    PubFollows (zeroCaptureComplete l r s).pub s.pub := by
  unfold zeroCaptureComplete
  split
  · exact producePair_pubFollows l r s
  · exact .refl _

theorem wakeRate_pub (s : State) : (wakeRate s).pub = s.pub := by
  unfold wakeRate
  split <;> rfl

theorem takeWake_pub (w : WakeSource) (s : State) : (takeWake w s).pub = s.pub := by
  unfold takeWake
  split
  · exact wakeRate_pub _
  · rfl

theorem quietTimerExpiry_pub (s : State) : (quietTimerExpiry s).pub = s.pub := by
  unfold quietTimerExpiry quietExpired
  split
  · split
    · rw [takeWake_pub, takeWake_pub]
    · split <;> rfl
  · rfl

theorem dormantEntryComplete_pub (s : State) : (dormantEntryComplete s).pub = s.pub := by
  unfold dormantEntryComplete
  split <;> rfl

theorem refreshTimerExpiry_pub (s : State) : (refreshTimerExpiry s).pub = s.pub := by
  unfold refreshTimerExpiry
  split
  · exact wakeRate_pub s
  · rfl

theorem settlingComplete_pub (s : State) : (settlingComplete s).pub = s.pub := by
  unfold settlingComplete
  split <;> rfl

theorem debounceHoldEnd_pub (d : Detector) (s : State) : (debounceHoldEnd d s).pub = s.pub := by
  unfold debounceHoldEnd
  split <;> rfl

/-! ### Events of the link -/

theorem attemptStart_pub (n : Nat) (s : State) : (attemptStart n s).pub = s.pub := by
  unfold attemptStart
  split
  · dsimp only
    split
    · rfl
    · split <;> rfl
  · rfl

theorem otherPartyStartMark_pub (n : Nat) (s : State) : (otherPartyStartMark n s).pub = s.pub := by
  unfold otherPartyStartMark
  split
  · split <;> rfl
  · rfl

theorem labelSentUnbeaten_pub (s : State) : (labelSentUnbeaten s).pub = s.pub := by
  unfold labelSentUnbeaten
  split <;> rfl

theorem arbitrationLost_pub (s : State) : (arbitrationLost s).pub = s.pub := by
  unfold arbitrationLost
  split <;> rfl

/-- A frame discarded tells its owner, and the fault may offer a PRESENCE (R18, R67). -/
theorem failAttempt_pubFollows (f : QFrame) (s : State) : PubFollows (failAttempt f s).pub s.pub := by
  unfold failAttempt
  split
  · exact .refl _
  · exact (setFault_pubFollows _ _).trans (notify_pubFollows _ _ _)

theorem senderError_pubFollows (n : Nat) (s : State) : PubFollows (senderError n s).pub s.pub := by
  unfold senderError
  split
  · dsimp only
    split
    · exact .refl _
    · split
      · exact .refl _
      · exact failAttempt_pubFollows _ _
  · exact .refl _

theorem attemptComplete_pubFollows (s : State) : PubFollows (attemptComplete s).pub s.pub := by
  unfold attemptComplete
  split
  · dsimp only
    split
    · exact .refl _
    · exact notify_pubFollows _ _ _
  · exact .refl _

theorem frameBroken_pub (c : BreakCause) (n : Nat) (s : State) : (frameBroken c n s).pub = s.pub := by
  unfold frameBroken
  split <;> rfl

/-! ### Settings and resets -/

theorem takeCalibrate_pubFollows (f : RxFrame) (s : State) : PubFollows (takeCalibrate f s).pub s.pub := by
  unfold takeCalibrate offerCalibrate
  split
  · split
    · exact offerPresence_pubFollows _
    · exact offerPresence_pubFollows _
  · exact .refl _

theorem acceptSite_pubFollows (st : Site) (s : State) : PubFollows (acceptSite st s).pub s.pub := by
  rw [acceptSite, resizeQuiet_eq]
  exact offerPresence_pubFollows _

theorem takeSite_pubFollows (f : RxFrame) (s : State) : PubFollows (takeSite f s).pub s.pub := by
  unfold takeSite
  split
  · split
    · exact offerPresence_pubFollows _
    · exact acceptSite_pubFollows _ s
  · exact .refl _

theorem powerOn_pubFollows (st : Straps) (s : State) : PubFollows (powerOn st s).pub s.pub := by
  unfold powerOn
  dsimp only
  split
  · exact pubFollows_nil _
  · exact (offerPresence_pubFollows _).trans (pubFollows_nil _)

theorem takeRestartFrame_pubFollows (f : RxFrame) (s : State) : PubFollows (takeRestartFrame f s).pub s.pub := by
  unfold takeRestartFrame
  split
  · rw [takeRestart_eq]
    exact (offerPresence_pubFollows _).trans (pubFollows_nil _)
  · exact .refl _

/-! ### Received frames -/

theorem checkFrame_pubFollows (k : Kind) (f : RxFrame) {deliver : State → State}
    (hd : ∀ u, PubFollows (deliver u).pub u.pub) (s : State) : PubFollows (checkFrame k f deliver s).pub s.pub := by
  unfold checkFrame
  split
  · split
    · exact setFault_pubFollows _ s
    · exact hd _
  · exact .refl _

/-- A received frame changes the ordinals as its delivery does (R68, R70, R71). -/
theorem receiveFrame_pubFollows (k : Kind) (f : RxFrame) {deliver : State → State}
    (hd : ∀ u, PubFollows (deliver u).pub u.pub) (s : State) : PubFollows (receiveFrame k f deliver s).pub s.pub := by
  have hmark := PubFollows.of_eq (otherPartyStartMark_pub 0 s)
  unfold receiveFrame
  dsimp only
  split
  · split
    · exact (checkFrame_pubFollows k f hd _).trans hmark
    · exact hmark
  · exact hmark

theorem rosterTake_pubFollows (k : Kind) (f : RxFrame) (s : State) : PubFollows (rosterTake k f s).pub s.pub :=
  .refl s.pub

/-- A station frame reaches the Roster, which no entry is part of, and the other blocks (R72, R83). -/
theorem stationRow_pubFollows (k : Kind) (f : RxFrame) {others : State → State}
    (ho : ∀ u, PubFollows (others u).pub u.pub) (s : State) :
    PubFollows (receiveFrame k f (deliverStation k f others) s).pub s.pub := by
  refine receiveFrame_pubFollows k f (fun u => ?_) s
  unfold deliverStation
  split
  · exact ho u
  · exact ho _

theorem takeTrainFrame_pubFollows (n : Nat) (f : RxFrame) {take : TrainFrame → State → State}
    (ht : ∀ g u, PubFollows (take g u).pub u.pub) (s : State) : PubFollows (takeTrainFrame n f take s).pub s.pub := by
  unfold takeTrainFrame
  dsimp only
  split
  · exact ht _ s
  · exact .refl _

theorem takeAxleFrame_pubFollows (f : RxFrame) (s : State) : PubFollows (takeAxleFrame f s).pub s.pub :=
  (takeContribution_pubFollows _ _ _).trans (trainTakesAxle_pubFollows _ s)

theorem takeVehicleFrame_pubFollows (f : RxFrame) (s : State) : PubFollows (takeVehicleFrame f s).pub s.pub := by
  unfold takeVehicleFrame
  split
  · exact takePeerRecord_pubFollows _ s
  · exact .refl _

/-! ### Every command, every step -/

theorem effect_pubFollows (c : Instr) (s : State) : PubFollows (effect c s).pub s.pub := by
  cases c with
  | powerOnReset pos cnt sec => exact powerOn_pubFollows _ s
  | samplePair l r => exact samplePair_pubFollows l r s
  | zeroCaptureComplete l r => exact zeroCaptureComplete_pubFollows l r s
  | settlingComplete => exact .of_eq (settlingComplete_pub s)
  | quietTimerExpiry => exact .of_eq (quietTimerExpiry_pub s)
  | dormantEntryComplete => exact .of_eq (dormantEntryComplete_pub s)
  | refreshTimerExpiry => exact .of_eq (refreshTimerExpiry_pub s)
  | wakeEvent w => exact .of_eq (takeWake_pub w s)
  | detectorEvent d dir => exact detectorEvent_pubFollows d dir s
  | debounceHoldEnd d => exact .of_eq (debounceHoldEnd_pub d s)
  | closeTimerExpiry => exact closeTimerExpiry_pubFollows s
  | deadlineExpiry i => exact deadlineExpiry_pubFollows i s
  | attemptStart n => exact .of_eq (attemptStart_pub n s)
  | arbitrationLost => exact .of_eq (arbitrationLost_pub s)
  | senderError n => exact senderError_pubFollows n s
  | attemptComplete => exact attemptComplete_pubFollows s
  | frameBroken b n => exact .of_eq (frameBroken_pub b n s)
  | restartFrame f => exact receiveFrame_pubFollows _ f (takeRestartFrame_pubFollows f) s
  | calibrateFrame f => exact receiveFrame_pubFollows _ f (takeCalibrate_pubFollows f) s
  | siteFrame f => exact receiveFrame_pubFollows _ f (takeSite_pubFollows f) s
  | trainOpenFrame f => exact stationRow_pubFollows _ f (takeTrainFrame_pubFollows _ f takeTrainOpen_pubFollows) s
  | trainReversalFrame f =>
    exact stationRow_pubFollows _ f (takeTrainFrame_pubFollows _ f takeTrainReversal_pubFollows) s
  | trainCloseFrame f =>
    exact stationRow_pubFollows _ f (takeTrainFrame_pubFollows _ f fun g u => .of_eq (takeTrainClose_pub g u)) s
  | axleFrame f => exact stationRow_pubFollows _ f (takeAxleFrame_pubFollows f) s
  | vehicleFrame f => exact stationRow_pubFollows _ f (takeVehicleFrame_pubFollows f) s
  | dissentFrame f => exact receiveFrame_pubFollows _ f (rosterTake_pubFollows _ f) s
  | presenceFrame f => exact receiveFrame_pubFollows _ f (rosterTake_pubFollows _ f) s
  | otherPartyStartMark n => exact .of_eq (otherPartyStartMark_pub n s)
  | labelSentUnbeaten => exact .of_eq (labelSentUnbeaten_pub s)

/-- Settles O13: a command changes the table's ordinals by the moves of `PubMove`, and each keeps their form. -/
theorem publicationInvKept : Obligations.PublicationInvKept :=
  stepKeeps_of_effect (fun _ _ h => h) (fun _ h => h) fun c s => (effect_pubFollows c s).inv

end Sys2Proof.Machine
end

section
/-! The train number: which operations leave the train as it is, which open one, and which close it. -/

namespace Sys2Proof.Machine

/-! ### What the rule speaks of -/

/-- From `s` to `t` no train opens or closes, and the train number stands. -/
structure SameTrain (s t : State) : Prop where
  closed : t.train.state = .noTrain ↔ s.train.state = .noTrain
  number : t.train.number = s.train.number

/-- The train number of `t` is that of `s`, one higher where a train opens between them (R165). -/
def NumberRises (s t : State) : Prop :=
  t.train.number =
    (if s.train.state = .noTrain ∧ t.train.state ≠ .noTrain then s.train.number + 1 else s.train.number)

theorem SameTrain.of_train {s t : State} (h : t.train = s.train) : SameTrain s t := by
  constructor <;> simp [h]

theorem SameTrain.refl (s : State) : SameTrain s s := .of_train rfl

theorem SameTrain.trans {s t u : State} (h : SameTrain s t) (g : SameTrain t u) : SameTrain s u :=
  ⟨g.closed.trans h.closed, g.number.trans h.number⟩

theorem Calm.sameTrain {s t : State} (h : Calm s t) : SameTrain s t := ⟨by rw [h.state], h.number⟩

theorem SameTrain.rises {s t : State} (h : SameTrain s t) : NumberRises s t := by
  simp [NumberRises, h.closed, h.number]

/-- An opening raises the number. -/
theorem NumberRises.of_opened {s t : State} (hs : s.train.state = .noTrain) (ht : t.train.state ≠ .noTrain)
    (hn : t.train.number = s.train.number + 1) : NumberRises s t := hn.trans (if_pos ⟨hs, ht⟩).symm

/-- Where no train is left the number stands. -/
theorem NumberRises.of_closed {s t : State} (ht : t.train.state = .noTrain) (hn : t.train.number = s.train.number) :
    NumberRises s t := hn.trans (if_neg fun h => h.2 ht).symm

/-- A change that leaves the train, then one of the rule. -/
theorem SameTrain.before {s t u : State} (h : SameTrain s t) (g : NumberRises t u) : NumberRises s u := by
  simpa only [NumberRises, h.closed, h.number] using g

/-- A change of the rule, then one that leaves the train. -/
theorem NumberRises.after {s t u : State} (h : NumberRises s t) (g : SameTrain t u) : NumberRises s u := by
  simpa only [NumberRises, ne_eq, g.closed, g.number] using h

/-! ### Operations that leave the train -/

@[simp] theorem wakeRate_train (s : State) : (wakeRate s).train = s.train := by
  unfold wakeRate
  split <;> rfl

@[simp] theorem takeWake_train (w : WakeSource) (s : State) : (takeWake w s).train = s.train := by
  unfold takeWake
  split
  · exact wakeRate_train _
  · rfl

theorem quietTimerExpiry_train (s : State) : (quietTimerExpiry s).train = s.train := by
  unfold quietTimerExpiry quietExpired
  split
  · split
    · simp
    · split <;> rfl
  · rfl

theorem dormantEntryComplete_train (s : State) : (dormantEntryComplete s).train = s.train := by
  unfold dormantEntryComplete
  split <;> rfl

theorem refreshTimerExpiry_train (s : State) : (refreshTimerExpiry s).train = s.train := by
  unfold refreshTimerExpiry
  split
  · exact wakeRate_train s
  · rfl

theorem settlingComplete_train (s : State) : (settlingComplete s).train = s.train := by
  unfold settlingComplete
  split <;> rfl

theorem debounceHoldEnd_train (d : Detector) (s : State) : (debounceHoldEnd d s).train = s.train := by
  unfold debounceHoldEnd
  split <;> rfl

theorem producePair_sameTrain (l r : Sample) (s : State) : SameTrain s (producePair l r s) := by
  obtain ⟨z, -, h⟩ := producePair_calm l r s
  exact ⟨by simp [h.state], h.number⟩

theorem samplePair_sameTrain (l r : Sample) (s : State) : SameTrain s (samplePair l r s) := by
  unfold samplePair
  split
  · exact producePair_sameTrain l r s
  · exact .refl s

theorem zeroCaptureComplete_sameTrain (l r : Sample) (s : State) : SameTrain s (zeroCaptureComplete l r s) := by
  unfold zeroCaptureComplete
  split
  · exact producePair_sameTrain l r s
  · exact .refl s

/-- A PRESENCE offered on a state with the train of `s`. -/
theorem offerPresence_sameTrain {s t : State} (h : t.train = s.train) : SameTrain s (offerPresence t) :=
  (SameTrain.of_train h).trans (offerPresence_frame t).calm.sameTrain

theorem takeCalibrate_sameTrain (f : RxFrame) (s : State) : SameTrain s (takeCalibrate f s) := by
  unfold takeCalibrate offerCalibrate
  split
  · split
    · exact offerPresence_sameTrain rfl
    · exact offerPresence_sameTrain rfl
  · exact .refl s

theorem takeSite_sameTrain (f : RxFrame) (s : State) : SameTrain s (takeSite f s) := by
  unfold takeSite
  split
  · split
    · exact offerPresence_sameTrain rfl
    · rw [acceptSite, resizeQuiet_eq]
      exact offerPresence_sameTrain rfl
  · exact .refl s

theorem takeVehicleFrame_sameTrain (f : RxFrame) (s : State) : SameTrain s (takeVehicleFrame f s) := by
  unfold takeVehicleFrame
  split
  · exact (takePeerRecord_frame _ s).calm.sameTrain
  · exact .refl s

theorem takeTrainClose_sameTrain (f : TrainFrame) (s : State) : SameTrain s (takeTrainClose f s) := by
  unfold takeTrainClose
  split
  · split
    · exact (answerClose_calm f s).sameTrain
    · exact (keepClose_calm f s).sameTrain
    · exact (keepClose_calm f s).sameTrain
  · exact .refl s

/-! ### Restarted timers and abandonment: the train stays held -/

theorem restartClose_sameTrain (s : State) : SameTrain s (restartClose s) := ⟨Iff.rfl, rfl⟩

theorem enterAbandoned_sameTrain (r : Nat) {s : State} (h : s.train.state = .running) :
    SameTrain s (enterAbandoned r s) := by
  obtain ⟨e, g⟩ := enterAbandoned_calm r s
  have habandoned : SameTrain s (abandonedAt e s) := ⟨by simp [abandonedAt, h], rfl⟩
  exact habandoned.trans g.sameTrain

theorem abandonAnnounced_sameTrain (r : Nat) {s : State} (h : s.train.state = .running) :
    SameTrain s (abandonAnnounced r s) :=
  have g := offerReversal_calm r s
  g.sameTrain.trans (enterAbandoned_sameTrain r (g.state.trans h))

theorem takeTrainReversal_sameTrain (f : TrainFrame) (s : State) : SameTrain s (takeTrainReversal f s) := by
  unfold takeTrainReversal
  split
  · rename_i h
    exact enterAbandoned_sameTrain _ (eq_of_beq (Bool.and_eq_true _ _ ▸ h).2)
  · exact .refl s

theorem takeEntry_sameTrain {s : State} (h : s.train.state = .running) : SameTrain s (takeEntry s) := by
  unfold takeEntry
  split
  · exact abandonAnnounced_sameTrain _ h
  · exact ((endOpenDwell_calm s).trans (openDwell_calm _)).sameTrain

theorem wheelTakes_sameTrain (d : Detector) (dir : Direction) (s : State) : SameTrain s (wheelTakes d dir s) := by
  unfold wheelTakes
  split
  · rename_i h
    have hs : s.train.state = .running := eq_of_beq (Bool.and_eq_true _ _ ▸ h).2
    split
    · split
      · exact takeEntry_sameTrain hs
      · exact (takeExit_calm s).sameTrain
    · exact abandonAnnounced_sameTrain _ hs
  · exact .refl s

/-! ### Openings -/

/-- Every opening raises the number (R156, R165). -/
theorem openTrain_rises (d : Direction) (st : Standing) (n : Nat) {s : State} (h : s.train.state = .noTrain) :
    NumberRises s (openTrain d st n s) := by
  rw [openTrain_eq]
  exact .of_opened h nofun rfl

/-- The TRAIN-OPEN that an own opening offers leaves the train (R157, R166). -/
theorem openFromDetector_rises (d : Direction) {s : State} (h : s.train.state = .noTrain) :
    NumberRises s (openFromDetector d s) := by
  have hoffer := (offer_frame .train (seqOf (openTrain d s.openStanding 1 s).train.number.toNat)
    (trainPayload trainOpenSubtype (openTrain d s.openStanding 1 s).train.dir
      (openTrain d s.openStanding 1 s).train.number 0 0 false false) (openTrain d s.openStanding 1 s)).calm.sameTrain
  exact (openTrain_rises d _ 1 h).after ⟨hoffer.closed, hoffer.number⟩

theorem trainTakesDetector_rises (d : Direction) (s : State) : NumberRises s (trainTakesDetector d s) := by
  unfold trainTakesDetector
  split
  · split
    · exact openFromDetector_rises d ‹_›
    · exact (restartClose_sameTrain s).rises
    · exact (restartClose_sameTrain s).rises
  · exact (SameTrain.refl s).rises

theorem takeTrainOpen_rises (f : TrainFrame) (s : State) : NumberRises s (takeTrainOpen f s) := by
  unfold takeTrainOpen
  split
  · split
    · exact openTrain_rises _ _ _ ‹_›
    · split
      · exact (cancelOpen_calm s).sameTrain.rises
      · exact (abandonAnnounced_sameTrain _ ‹_›).rises
    · exact (SameTrain.refl s).rises
  · exact (SameTrain.refl s).rises

theorem trainTakesAxle_rises (q : Partial) (s : State) : NumberRises s (trainTakesAxle q s) := by
  unfold trainTakesAxle
  split
  · split
    · split
      · exact openTrain_rises _ _ _ ‹_›
      · exact openTrain_rises _ _ _ ‹_›
    · exact (restartClose_sameTrain s).rises
    · exact (restartClose_sameTrain s).rises
  · exact (SameTrain.refl s).rises

/-- A detector event opens before the Wheel Timer takes it, and the Wheel Timer leaves the train open. -/
theorem detectorEvent_rises (d : Detector) (dir : Direction) (s : State) : NumberRises s (detectorEvent d dir s) := by
  have hreported : SameTrain s (reported d s) := .of_train rfl
  unfold detectorEvent
  split
  · exact (hreported.before (trainTakesDetector_rises dir _)).after (wheelTakes_sameTrain d dir _)
  · exact (SameTrain.refl s).rises

theorem takeAxleFrame_rises (f : RxFrame) (s : State) : NumberRises s (takeAxleFrame f s) :=
  (trainTakesAxle_rises _ s).after (takeContribution_frame _ _ _).calm.sameTrain

/-! ### Closes and restarts: the number stands -/

theorem trainEnded_closed (s : State) :
    (trainEnded s).train.state = .noTrain ∧ (trainEnded s).train.number = s.train.number := by
  unfold trainEnded requestQuiet
  split <;> exact ⟨rfl, rfl⟩

theorem closeTimerExpiry_rises (s : State) : NumberRises s (closeTimerExpiry s) := by
  unfold closeTimerExpiry
  split
  · obtain ⟨hstate, hnumber⟩ := trainEnded_closed s
    exact (NumberRises.of_closed hstate hnumber).after (closeTrain_calm s).sameTrain
  · exact (SameTrain.refl s).rises

/-- A RESTART leaves no train and keeps the number (R155, R174). -/
theorem takeRestart_rises (keep : Bool) (s : State) : NumberRises s (takeRestart keep s) := by
  rw [takeRestart_eq]
  refine NumberRises.after ?_ (offerPresence_frame _).calm.sameTrain
  exact .of_closed rfl rfl

theorem takeRestartFrame_rises (f : RxFrame) (s : State) : NumberRises s (takeRestartFrame f s) := by
  unfold takeRestartFrame
  split
  · exact takeRestart_rises _ s
  · exact (SameTrain.refl s).rises

/-! ### Received frames -/

theorem takeTrainFrame_rises (n : Nat) (f : RxFrame) {take : TrainFrame → State → State}
    (ht : ∀ g u, NumberRises u (take g u)) (s : State) : NumberRises s (takeTrainFrame n f take s) := by
  unfold takeTrainFrame
  dsimp only
  split
  · exact ht _ s
  · exact (SameTrain.refl s).rises

/-- A received frame does what its delivery does, or leaves the train (R64, R68, R70, R71). -/
theorem receiveFrame_rises (k : Kind) (f : RxFrame) {deliver : State → State} (hd : ∀ u, NumberRises u (deliver u))
    (s : State) : NumberRises s (receiveFrame k f deliver s) := by
  have hdelivered : SameTrain s s.delivered := .of_train rfl
  rcases receiveFrame_cases k f deliver s with h | h
  · exact h.sameTrain.rises
  · exact h ▸ hdelivered.before (hd _)

/-- The Roster, before or after the other blocks, has no part in it (R72, R83). -/
theorem stationRow_rises (k : Kind) (f : RxFrame) {others : State → State} (ho : ∀ u, NumberRises u (others u))
    (s : State) : NumberRises s (receiveFrame k f (deliverStation k f others) s) := by
  refine receiveFrame_rises k f (fun u => ?_) s
  unfold deliverStation
  split
  · exact (ho u).after (rosterTake_calm k f _).sameTrain
  · exact (rosterTake_calm k f u).sameTrain.before (ho _)

/-! ### Every command -/

theorem effect_rises (c : Instr) (s : State) (h : ¬ isPowerOn c) : NumberRises s (effect c s) := by
  cases c with
  | powerOnReset pos cnt sec => exact absurd ⟨pos, cnt, sec, rfl⟩ h
  | samplePair l r => exact (samplePair_sameTrain l r s).rises
  | zeroCaptureComplete l r => exact (zeroCaptureComplete_sameTrain l r s).rises
  | settlingComplete => exact (SameTrain.of_train (settlingComplete_train s)).rises
  | quietTimerExpiry => exact (SameTrain.of_train (quietTimerExpiry_train s)).rises
  | dormantEntryComplete => exact (SameTrain.of_train (dormantEntryComplete_train s)).rises
  | refreshTimerExpiry => exact (SameTrain.of_train (refreshTimerExpiry_train s)).rises
  | wakeEvent w => exact (SameTrain.of_train (takeWake_train w s)).rises
  | detectorEvent d dir => exact detectorEvent_rises d dir s
  | debounceHoldEnd d => exact (SameTrain.of_train (debounceHoldEnd_train d s)).rises
  | closeTimerExpiry => exact closeTimerExpiry_rises s
  | deadlineExpiry i => exact (deadlineExpiry_calm i s).sameTrain.rises
  | attemptStart n => exact (attemptStart_calm n s).sameTrain.rises
  | arbitrationLost => exact (arbitrationLost_calm s).sameTrain.rises
  | senderError n => exact (senderError_calm n s).sameTrain.rises
  | attemptComplete => exact (attemptComplete_calm s).sameTrain.rises
  | frameBroken b n => exact (frameBroken_calm b n s).sameTrain.rises
  | restartFrame f => exact receiveFrame_rises _ f (takeRestartFrame_rises f) s
  | calibrateFrame f => exact receiveFrame_rises _ f (fun u => (takeCalibrate_sameTrain f u).rises) s
  | siteFrame f => exact receiveFrame_rises _ f (fun u => (takeSite_sameTrain f u).rises) s
  | trainOpenFrame f => exact stationRow_rises _ f (takeTrainFrame_rises _ f takeTrainOpen_rises) s
  | trainReversalFrame f =>
    exact stationRow_rises _ f (takeTrainFrame_rises _ f fun g u => (takeTrainReversal_sameTrain g u).rises) s
  | trainCloseFrame f =>
    exact stationRow_rises _ f (takeTrainFrame_rises _ f fun g u => (takeTrainClose_sameTrain g u).rises) s
  | axleFrame f => exact stationRow_rises _ f (takeAxleFrame_rises f) s
  | vehicleFrame f => exact stationRow_rises _ f (fun u => (takeVehicleFrame_sameTrain f u).rises) s
  | dissentFrame f => exact receiveFrame_rises _ f (fun u => (rosterTake_calm _ f u).sameTrain.rises) s
  | presenceFrame f => exact receiveFrame_rises _ f (fun u => (rosterTake_calm _ f u).sameTrain.rises) s
  | otherPartyStartMark n => exact (otherPartyStartMark_calm n s).sameTrain.rises
  | labelSentUnbeaten => exact (labelSentUnbeaten_calm s).sameTrain.rises

/-- Settles O4: no command opens a train after closing one, and every opening and nothing else raises the number. -/
theorem trainNumberRule : Obligations.TrainNumberRule := by
  intro c s t he hc
  rw [exec_inService c s hc] at he
  cases hf : s.strapFault
  · rw [inService_next _ s hf] at he
    cases he
    exact effect_rises c s hc
  · rw [inService_strapFault _ s hf] at he
    cases he
    exact (SameTrain.refl s).rises

end Sys2Proof.Machine
end

section
/-! The held CALIBRATE and SITE: what each command does to them. -/

namespace Sys2Proof.Machine

/-! ### Operations that leave both settings -/

/-- `t` holds the settings of `s`. -/
structure SameSettings (s t : State) : Prop where
  cal : t.conf.cal = s.conf.cal
  site : t.conf.site = s.conf.site

theorem SameSettings.refl (s : State) : SameSettings s s := ⟨rfl, rfl⟩

theorem SameSettings.trans {s t u : State} (h : SameSettings s t) (g : SameSettings t u) : SameSettings s u :=
  ⟨g.cal.trans h.cal, g.site.trans h.site⟩

theorem SameSettings.of_conf {s t : State} (h : t.conf = s.conf) : SameSettings s t := by constructor <;> rw [h]

theorem Calm.sameSettings {s t : State} (h : Calm s t) : SameSettings s t := .of_conf h.conf

@[simp] theorem wakeRate_conf (s : State) : (wakeRate s).conf = s.conf := by
  unfold wakeRate
  split <;> rfl

@[simp] theorem requestQuiet_conf (s : State) : (requestQuiet s).conf = s.conf := by
  unfold requestQuiet
  split <;> rfl

@[simp] theorem resizeQuiet_conf (s : State) : (resizeQuiet s).conf = s.conf := by
  unfold resizeQuiet
  split <;> rfl

/-- No change to the train reaches Configuration. -/
theorem TrainAct.conf {s t : State} (a : TrainAct s t) : t.conf = s.conf := by
  cases a with
  | calm h => exact h.conf
  | opens d st n h g => rw [openTrain_eq]
  | restarts h => rfl
  | abandons e h => rfl
  | ends h => exact requestQuiet_conf _

/-- Of the acts only a refusal writes Configuration, and it leaves both settings (R169, R171). -/
theorem Act.sameSettings {s t : State} (a : Act s t) : SameSettings s t := by
  cases a with
  | train a => exact .of_conf a.conf
  | woken => exact .of_conf (wakeRate_conf s)
  | _ => exact ⟨rfl, rfl⟩

theorem Acts.sameSettings {s t : State} (a : Acts s t) : SameSettings s t :=
  a.keep (P := SameSettings s) (fun _ _ b h => h.trans b.sameSettings) (.refl s)

theorem producePair_sameSettings (l r : Sample) (s : State) : SameSettings s (producePair l r s) := by
  obtain ⟨z, -, h⟩ := producePair_calm l r s
  exact .of_conf h.conf

theorem samplePair_sameSettings (l r : Sample) (s : State) : SameSettings s (samplePair l r s) := by
  unfold samplePair
  split
  · exact producePair_sameSettings l r s
  · exact .refl s

theorem zeroCaptureComplete_sameSettings (l r : Sample) (s : State) : SameSettings s (zeroCaptureComplete l r s) := by
  unfold zeroCaptureComplete
  split
  · exact producePair_sameSettings l r s
  · exact .refl s

/-! ### Configuration's own writes -/

theorem refuseSettings_sameSettings (r : LastRefusal) (s : State) : SameSettings s (refuseSettings r s) :=
  (refuseSettings_acts r s).sameSettings

theorem acceptCalibrate_conf (c : Calibrate) (s : State) :
    (acceptCalibrate c s).conf = { s.conf with cal := some c, lastRefusal := .none } :=
  (offerPresence_frame _).calm.conf

theorem acceptSite_conf (st : Site) (s : State) :
    (acceptSite st s).conf = { s.conf with site := some st, lastRefusal := .none } :=
  (offerPresence_frame _).calm.conf.trans (resizeQuiet_conf _)

theorem takeRestart_conf (keep : Bool) (s : State) : (takeRestart keep s).conf = restartConf keep s.conf := by
  rw [takeRestart_eq]
  exact (offerPresence_frame _).calm.conf

/-! ### What a command can do to the settings -/

/-- The lock of R169 to R174: the settings stand, or the command is the one frame that may write them. -/
inductive SettingsEffect (c : Instr) (s t : State) : Prop where
  | kept (h : SameSettings s t)
  /-- A CALIBRATE for the own position, none being held (R169, R170). -/
  | calibrated (f : RxFrame) (hc : c = .calibrateFrame f) (hown : f.position = s.own) (hnone : s.conf.cal = none)
      (hsite : t.conf.site = s.conf.site)
  /-- A SITE, none being held (R171). -/
  | sited (f : RxFrame) (hc : c = .siteFrame f) (hnone : s.conf.site = none) (hcal : t.conf.cal = s.conf.cal)
  /-- A RESTART that releases configuration (R174). -/
  | released (f : RxFrame) (hc : c = .restartFrame f) (hrelease : restartKeeps f.payload = false)
      (hcal : t.conf.cal = none) (hsite : t.conf.site = none)

theorem Acts.settings {c : Instr} {s t : State} (a : Acts s t) : SettingsEffect c s t := .kept a.sameSettings

theorem Calm.settings {c : Instr} {s t : State} (h : Calm s t) : SettingsEffect c s t := .kept h.sameSettings

theorem delivered_sameSettings (s : State) : SameSettings s s.delivered := ⟨rfl, rfl⟩

theorem calibrateFrame_settings (f : RxFrame) (s : State) :
    SettingsEffect (.calibrateFrame f) s (calibrateFrame f s) := by
  rcases receiveFrame_cases .calibrate f (takeCalibrate f) s with h | h
  · exact h.settings
  · rw [calibrateFrame, h]
    by_cases ho : f.position = s.own ∧ s.conf.cal = none
    · obtain ⟨hown, hnone⟩ := ho
      rw [takeCalibrate_offered f s.delivered hown hnone, offerCalibrate]
      split
      · exact .kept ((delivered_sameSettings s).trans (refuseSettings_sameSettings _ _))
      · exact .calibrated f rfl hown hnone (congrArg (·.site) (acceptCalibrate_conf _ s.delivered))
    · rw [takeCalibrate_ignored f s.delivered (not_and_or.1 ho)]
      exact .kept (delivered_sameSettings s)

theorem siteFrame_settings (f : RxFrame) (s : State) : SettingsEffect (.siteFrame f) s (siteFrame f s) := by
  rcases receiveFrame_cases .site f (takeSite f) s with h | h
  · exact h.settings
  · rw [siteFrame, h, takeSite]
    split
    · have hnone : s.conf.site = none := Option.isNone_iff_eq_none.1 ‹_›
      split
      · exact .kept ((delivered_sameSettings s).trans (refuseSettings_sameSettings _ _))
      · exact .sited f rfl hnone (congrArg (·.cal) (acceptSite_conf _ s.delivered))
    · exact .kept (delivered_sameSettings s)

theorem restartFrame_settings (f : RxFrame) (s : State) :
    SettingsEffect (.restartFrame f) s (restartFrame f s) := by
  rcases receiveFrame_cases .restart f (takeRestartFrame f) s with h | h
  · exact h.settings
  · rw [restartFrame, h, takeRestartFrame]
    split
    · cases hk : restartKeeps f.payload
      · have hconf := takeRestart_conf false s.delivered
        exact .released f rfl hk (congrArg (·.cal) hconf) (congrArg (·.site) hconf)
      · have hconf := takeRestart_conf true s.delivered
        exact .kept ⟨congrArg (·.cal) hconf, congrArg (·.site) hconf⟩
    · exact .kept (delivered_sameSettings s)

/-- A station frame that is delivered to the Train Sequencer, the Consensus Table or the Publication Table beside the
Roster leaves the settings (R72). -/
theorem stationRow_settings {c : Instr} (k : Kind) (f : RxFrame) {others : State → State}
    (ho : ∀ u, Acts u (others u)) (s : State) : SettingsEffect c s (receiveFrame k f (deliverStation k f others) s) :=
  (receiveFrame_acts k f _ s (deliverStation_acts k f _ ho)).settings

/-- A frame that the Roster alone takes leaves the settings (R72). -/
theorem rosterRow_settings {c : Instr} (k : Kind) (f : RxFrame) (s : State) :
    SettingsEffect c s (receiveFrame k f (rosterTake k f) s) :=
  (receiveFrame_acts k f _ s fun u => (rosterTake_calm k f u).acts).settings

theorem effect_settings (c : Instr) (s : State) (h : ¬ isPowerOn c) : SettingsEffect c s (effect c s) := by
  cases c with
  | powerOnReset pos cnt sec => exact absurd ⟨pos, cnt, sec, rfl⟩ h
  | samplePair l r => exact .kept (samplePair_sameSettings l r s)
  | zeroCaptureComplete l r => exact .kept (zeroCaptureComplete_sameSettings l r s)
  | settlingComplete => exact (settlingComplete_acts s).settings
  | quietTimerExpiry => exact (quietTimerExpiry_acts s).settings
  | dormantEntryComplete => exact (dormantEntryComplete_acts s).settings
  | refreshTimerExpiry => exact (refreshTimerExpiry_acts s).settings
  | wakeEvent w => exact (takeWake_acts w s).settings
  | detectorEvent d dir => exact (detectorEvent_acts d dir s).settings
  | debounceHoldEnd d => exact (debounceHoldEnd_acts d s).settings
  | closeTimerExpiry => exact (closeTimerExpiry_acts s).acts.settings
  | deadlineExpiry i => exact (deadlineExpiry_calm i s).settings
  | attemptStart n => exact (attemptStart_calm n s).settings
  | arbitrationLost => exact (arbitrationLost_calm s).settings
  | senderError n => exact (senderError_calm n s).settings
  | attemptComplete => exact (attemptComplete_calm s).settings
  | frameBroken b n => exact (frameBroken_calm b n s).settings
  | restartFrame f => exact restartFrame_settings f s
  | calibrateFrame f => exact calibrateFrame_settings f s
  | siteFrame f => exact siteFrame_settings f s
  | trainOpenFrame f => exact stationRow_settings _ f (takeTrainFrame_acts _ f _ takeTrainOpen_acts) s
  | trainReversalFrame f => exact stationRow_settings _ f (takeTrainFrame_acts _ f _ takeTrainReversal_acts) s
  | trainCloseFrame f => exact stationRow_settings _ f (takeTrainFrame_acts _ f _ takeTrainClose_acts) s
  | axleFrame f => exact stationRow_settings _ f (takeAxleFrame_acts f) s
  | vehicleFrame f => exact stationRow_settings _ f (takeVehicleFrame_acts f) s
  | dissentFrame f => exact rosterRow_settings _ f s
  | presenceFrame f => exact rosterRow_settings _ f s
  | otherPartyStartMark n => exact (otherPartyStartMark_calm n s).settings
  | labelSentUnbeaten => exact (labelSentUnbeaten_calm s).settings

/-- A station in STRAP_FAULT takes no command and keeps its settings (R167). -/
theorem exec_settings {c : Instr} {s t : State} (h : ¬ isPowerOn c) (e : exec c s = .next t) :
    SettingsEffect c s t := by
  rw [exec_inService c s h] at e
  cases e
  split
  · exact .kept (.refl s)
  · exact effect_settings c s h

/-- Settles O7: each of the four effects on the settings obeys the lock. -/
theorem settingsLocked : Obligations.SettingsLocked := by
  intro c s t e hc
  cases exec_settings hc e with
  | kept h =>
    obtain ⟨hcal, hsite⟩ := h
    rw [hcal, hsite]
    exact ⟨fun _ hk => .inl hk, fun _ hk => .inl hk, fun hn hk => by simp [hn] at hk, fun hn hk => by simp [hn] at hk⟩
  | calibrated f hf hown hnone hsite =>
    rw [hsite]
    exact ⟨fun _ hk => by simp [hnone] at hk, fun _ hk => .inl hk, fun _ _ => ⟨f, hf, hown⟩,
      fun hn hk => by simp [hn] at hk⟩
  | sited f hf hnone hcal =>
    rw [hcal]
    exact ⟨fun _ hk => .inl hk, fun _ hk => by simp [hnone] at hk, fun hn hk => by simp [hn] at hk, fun _ _ => ⟨f, hf⟩⟩
  | released f hf hrelease hcal hsite =>
    exact ⟨fun _ _ => .inr ⟨hcal, hsite, f, hf, hrelease⟩, fun _ _ => .inr ⟨hcal, hsite, f, hf, hrelease⟩,
      fun _ hk => by simp [hcal] at hk, fun _ hk => by simp [hsite] at hk⟩

end Sys2Proof.Machine
end

section
/-! The step with a command waiting, beside `step_idle`. -/

namespace Sys2Proof.Machine

theorem step_of_pending {c : Instr} {rest : List Instr} (s : State) (h : s.pending = c :: rest) :
    step s = exec c { s with pending := rest } := by
  unfold step
  rw [h]

/-- Settles O1: of the state given, only the queue differs, and `step` puts its rest in its place before `exec` reads it. -/
theorem stepTakesFront : Obligations.StepTakesFront :=
  fun c rest s => step_of_pending { s with pending := c :: rest } rfl

end Sys2Proof.Machine
end
